-- ==== Sys2Proof/Word.lean ====
section
/-! DEFINITION. The bit-vector types of the F2H tile codec block. Every width is fixed by the spec: the
register width of 32 bits, the canvas sample of 9 bits (00_scope.md R6), the 12-bit offset and the 13-bit
transaction code (30_encoding.md R80), and the byte of a buffer (R10). All values are unsigned (R7). -/

namespace Sys2Proof

/-- A byte of a tile buffer, of a record, or of the output FIFO (R10). -/
abbrev Byte := BitVec 8

/-- A register value or a transaction's data word (R6, R20). -/
abbrev Word := BitVec 32

/-- A canvas sample (R6, R39). -/
abbrev Sample := BitVec 9

/-- A byte offset into the register window (R80). -/
abbrev Offset := BitVec 12

/-- A transaction code: `TC[12] = W`, `TC[11:0] = off` (R80). -/
abbrev TxnCode := BitVec 13

end Sys2Proof
end

