-- ==== Sys2Proof/Config.lean ====
section
/-! DEFINITION. What is fixed for the block, the implementation parameters' values at `State.reset`, and the
FREE VALUES: constants with no body, one for each thing the spec leaves unspecified, so that no proof can see
what they are. -/

namespace Sys2Proof.Config

/-- The constant `ID` holds (10_state.md R21). -/
def idValue : Word := 0x46324801

/-- The size of the register window in bytes (20_memory.md R60). -/
def windowSize : Nat := 4096

/-! ### Implementation parameters (00_scope.md R5)

`CANVAS_CAP`, `PREV_CAP` and `OFIFO_DEPTH` are fields of the State (they are the capability registers of
10_state.md R36), so that a statement about every state is one about every value of the parameters. What
stands here is only the value `State.reset` gives each: the parameter set of 95_test_vectors.md program P6.
DESIGN CHOICE, unsafe (log entry 1). -/

/-- `CANVAS_CAP` at `State.reset`. DESIGN CHOICE (log entry 1). -/
def canvasCapAtReset : Word := 4096

/-- `PREV_CAP` at `State.reset`. DESIGN CHOICE (log entry 1). -/
def prevCapAtReset : Word := 4096

/-- `OFIFO_DEPTH` at `State.reset`. DESIGN CHOICE (log entry 1). -/
def fifoDepthAtReset : Word := 4

/-! ### Free values -/

/-- `CANVAS_INIT` (R5, R40): the unspecified sample that canvas index `i` holds after the hardware reset
numbered `epoch`, until it is written (log entry 3). -/
opaque canvasInit (epoch i : Nat) : Sample

/-- The unspecified byte that previous-tile address `a` holds after the reset or INIT numbered `epoch`, until
an ENCODE writes it (R42; log entry 4). -/
opaque prevInit (epoch a : Nat) : Byte

/-- The draw that a read of `FRAME_IDX` returns while `BUSY = 1` (44_commands.md R217); `n` numbers the draw
(log entry 5). -/
opaque busyFrameIdx (n : Nat) : Word

/-- The draw that a read of `UPD_COUNT` returns while `BUSY = 1` (R217; log entry 5). -/
opaque busyUpdCount (n : Nat) : BitVec 16

/-- The draw that a read of `REC_LEN` returns while `BUSY = 1` (R217; log entry 5). -/
opaque busyRecLen (n : Nat) : Word

/-- The draw for `STATUS.LAST_KEY` in a read of `STATUS` while `BUSY = 1` (R217; log entry 5). -/
opaque busyLastKey (n : Nat) : Bool

/-- The draw for `STATUS.PREV_VALID` in a read of `STATUS` while `BUSY = 1` (R217; log entry 5). -/
opaque busyPrevValid (n : Nat) : Bool

end Sys2Proof.Config
end

