-- ==== Sys2Proof/Syntax.lean ====
section
/-! DEFINITION. The syntax: the instruction set (one constructor per row of spec/opcode_table.json), the host
transaction and the command that carry it, the names of the registers, and the host program notation of
30_encoding.md R97 and R98. -/

namespace Sys2Proof

/-- The 23 registers of the register map (30_encoding.md R82), in the order of their offsets. -/
inductive Reg where
  | id
  | cfg
  | dim
  | kfi
  | cmd
  | status
  | irqEn
  | frameIdx
  | updCount
  | recLen
  | outData
  | outLevel
  | pixAddr
  | pixData
  | actCfg
  | actDim
  | actKfi
  | tiles
  | tileBytes
  | tileCount
  | canvasCap
  | prevCap
  | fifoDepth
deriving DecidableEq, Repr

/-- A host bus transaction (30_encoding.md R80): `Read(off)`, or `Write(off, data)` with 32 bits of data. -/
inductive Txn where
  | read (off : Offset)
  | write (off : Offset) (data : Word)
deriving DecidableEq, Repr

/-- The three commands a `CMD` write can issue (30_encoding.md R90). -/
inductive Command where
  | nop
  | init
  | encode
deriving DecidableEq, Repr

/-- The instructions: the 46 bus transactions (format `BUS`) and the 3 command words (format `CMD`) of
spec/opcode_table.json, one constructor a row. The operand of a write is its 32-bit data word. -/
inductive Instr where
  /-- `RD_ID` (R240). -/
  | rdId
  /-- `WR_ID` (R255). -/
  | wrId (d : Word)
  /-- `RD_CFG` (R241). -/
  | rdCfg
  /-- `WR_CFG` (R241). -/
  | wrCfg (d : Word)
  /-- `RD_DIM` (R242). -/
  | rdDim
  /-- `WR_DIM` (R242). -/
  | wrDim (d : Word)
  /-- `RD_KFI` (R243). -/
  | rdKfi
  /-- `WR_KFI` (R243). -/
  | wrKfi (d : Word)
  /-- `RD_CMD` (R211). -/
  | rdCmd
  /-- `WR_CMD` (R210). -/
  | wrCmd (d : Word)
  /-- `RD_STATUS` (R244). -/
  | rdStatus
  /-- `WR_STATUS` (R245). -/
  | wrStatus (d : Word)
  /-- `RD_IRQ_EN` (R246). -/
  | rdIrqEn
  /-- `WR_IRQ_EN` (R246). -/
  | wrIrqEn (d : Word)
  /-- `RD_FRAME_IDX` (R247). -/
  | rdFrameIdx
  /-- `WR_FRAME_IDX` (R255). -/
  | wrFrameIdx (d : Word)
  /-- `RD_UPD_COUNT` (R248). -/
  | rdUpdCount
  /-- `WR_UPD_COUNT` (R255). -/
  | wrUpdCount (d : Word)
  /-- `RD_REC_LEN` (R249). -/
  | rdRecLen
  /-- `WR_REC_LEN` (R255). -/
  | wrRecLen (d : Word)
  /-- `RD_OUT_DATA` (R219). -/
  | rdOutData
  /-- `WR_OUT_DATA` (R255). -/
  | wrOutData (d : Word)
  /-- `RD_OUT_LEVEL` (R220). -/
  | rdOutLevel
  /-- `WR_OUT_LEVEL` (R255). -/
  | wrOutLevel (d : Word)
  /-- `RD_PIX_ADDR` (R127). -/
  | rdPixAddr
  /-- `WR_PIX_ADDR` (R126). -/
  | wrPixAddr (d : Word)
  /-- `RD_PIX_DATA` (R125). -/
  | rdPixData
  /-- `WR_PIX_DATA` (R120). -/
  | wrPixData (d : Word)
  /-- `RD_ACT_CFG` (R250). -/
  | rdActCfg
  /-- `WR_ACT_CFG` (R255). -/
  | wrActCfg (d : Word)
  /-- `RD_ACT_DIM` (R250). -/
  | rdActDim
  /-- `WR_ACT_DIM` (R255). -/
  | wrActDim (d : Word)
  /-- `RD_ACT_KFI` (R250). -/
  | rdActKfi
  /-- `WR_ACT_KFI` (R255). -/
  | wrActKfi (d : Word)
  /-- `RD_TILES` (R251). -/
  | rdTiles
  /-- `WR_TILES` (R255). -/
  | wrTiles (d : Word)
  /-- `RD_TILE_BYTES` (R252). -/
  | rdTileBytes
  /-- `WR_TILE_BYTES` (R255). -/
  | wrTileBytes (d : Word)
  /-- `RD_TILE_COUNT` (R253). -/
  | rdTileCount
  /-- `WR_TILE_COUNT` (R255). -/
  | wrTileCount (d : Word)
  /-- `RD_CANVAS_CAP` (R254). -/
  | rdCanvasCap
  /-- `WR_CANVAS_CAP` (R255). -/
  | wrCanvasCap (d : Word)
  /-- `RD_PREV_CAP` (R254). -/
  | rdPrevCap
  /-- `WR_PREV_CAP` (R255). -/
  | wrPrevCap (d : Word)
  /-- `RD_FIFO_DEPTH` (R254). -/
  | rdFifoDepth
  /-- `WR_FIFO_DEPTH` (R255). -/
  | wrFifoDepth (d : Word)
  /-- The command word `NOP` (R212). -/
  | nop
  /-- The command word `INIT` (R213). -/
  | init
  /-- The command word `ENCODE` (R216). -/
  | encode
deriving DecidableEq, Repr

/-- One line of a host program (30_encoding.md R97 and R98), as it is written: a literal is a number with no
width yet, which `HostLine.wf` checks. `rep n` is `HostLine.rep`, and `wait_idle`, which is host control flow
and no transaction, is `waitIdleNext` (Machine/HostProgram.lean). -/
inductive HostLine where
  /-- `rd REG` -/
  | rd (r : Reg)
  /-- `wr REG, imm32` -/
  | wr (r : Reg) (imm : Nat)
  /-- `rd @0xOFF` -/
  | rdRaw (off : Nat)
  /-- `wr @0xOFF, imm32` -/
  | wrRaw (off imm : Nat)
  /-- `cmd NOP`, `cmd INIT`, `cmd ENCODE` -/
  | cmd (c : Command)
  /-- `pix v` -/
  | pix (v : Nat)
  /-- `rgb r, g, b` -/
  | rgb (r g b : Nat)
  /-- `clr DONE` -/
  | clrDone
  /-- `clr ERR` -/
  | clrErr
  /-- `pop` -/
  | pop
deriving DecidableEq, Repr

/-- `rep n { body }`: `body` written out `n` times, in order (30_encoding.md R98). -/
def HostLine.rep (n : Nat) (body : List HostLine) : List HostLine :=
  (List.replicate n body).flatten

end Sys2Proof
end

