-- ==== Sys2Proof/Decode.lean ====
section
/-! DEFINITION. The decoder, total on any transaction and any command word, rejecting by name, and after it the
encoder, both written from the encoding tables of 30_encoding.md: the transaction code (R80), the register map
(R82) and the command opcode map (R90). -/

namespace Sys2Proof

/-! ### The encoding tables -/

/-- A register's offset in the window (R82). -/
def Reg.offset : Reg → Offset
  | .id => 0x000
  | .cfg => 0x004
  | .dim => 0x008
  | .kfi => 0x00C
  | .cmd => 0x010
  | .status => 0x014
  | .irqEn => 0x018
  | .frameIdx => 0x01C
  | .updCount => 0x020
  | .recLen => 0x024
  | .outData => 0x028
  | .outLevel => 0x02C
  | .pixAddr => 0x030
  | .pixData => 0x034
  | .actCfg => 0x038
  | .actDim => 0x03C
  | .actKfi => 0x040
  | .tiles => 0x044
  | .tileBytes => 0x048
  | .tileCount => 0x04C
  | .canvasCap => 0x050
  | .prevCap => 0x054
  | .fifoDepth => 0x058

/-- Every register of the map. -/
def Reg.all : List Reg :=
  [.id, .cfg, .dim, .kfi, .cmd, .status, .irqEn, .frameIdx,
   .updCount, .recLen, .outData, .outLevel, .pixAddr, .pixData, .actCfg, .actDim,
   .actKfi, .tiles, .tileBytes, .tileCount, .canvasCap, .prevCap, .fifoDepth]

/-- What a row of format `BUS` stands for: the read or the write of one register. -/
inductive BusOp where
  | rd (r : Reg)
  | wr (r : Reg)
deriving DecidableEq, Repr

/-- A row of the opcode table, of format `BUS`: it matches a code `tc` with `tc & mask = pattern` (R81). -/
structure BusRow where
  pattern : TxnCode
  mask : TxnCode
  op : BusOp
deriving DecidableEq, Repr

/-- A transaction code from its `W` bit and its offset (R80). -/
def txnCode (w : BitVec 1) (off : Offset) : TxnCode := w ++ off

/-- The two rows of one register: `RD_<reg>` (`W = 0`) and `WR_<reg>` (`W = 1`). Every row's mask is 0x1FFF. -/
def busRowsOf (r : Reg) : List BusRow :=
  [⟨txnCode 0#1 r.offset, 0x1FFF, .rd r⟩, ⟨txnCode 1#1 r.offset, 0x1FFF, .wr r⟩]

/-- The 46 rows of format `BUS`. -/
def busRows : List BusRow := Reg.all.flatMap busRowsOf

/-- Whether a row matches a code (R81). -/
def BusRow.matchesCode (row : BusRow) (tc : TxnCode) : Bool := tc &&& row.mask == row.pattern

/-- The row that a transaction code selects, if one does (R81). -/
def busRow (tc : TxnCode) : Option BusRow := busRows.find? (·.matchesCode tc)

/-- A row of the opcode table, of format `CMD` (R89). -/
structure CmdRow where
  pattern : Word
  mask : Word
  op : Command
deriving DecidableEq, Repr

/-- The three rows of format `CMD` (R90). -/
def cmdRows : List CmdRow :=
  [⟨0x00000000, 0xFFFFFFFF, .nop⟩, ⟨0x00000001, 0xFFFFFFFF, .init⟩, ⟨0x00000002, 0xFFFFFFFF, .encode⟩]

/-! ### Decoding -/

/-- The transaction code of a transaction (R80). -/
def Txn.code : Txn → TxnCode
  | .read off => txnCode 0#1 off
  | .write off _ => txnCode 1#1 off

/-- The transaction with a given code and data word; a read has no data word. -/
def Txn.ofCode (tc : TxnCode) (data : Word) : Txn :=
  if tc.getLsbD 12 then .write (tc.extractLsb' 0 12) data else .read (tc.extractLsb' 0 12)

/-- The offset a transaction names. -/
def Txn.off : Txn → Offset
  | .read off => off
  | .write off _ => off

/-- The data word a transaction carries, 0 for a read, which carries none. -/
def Txn.data : Txn → Word
  | .read _ => 0
  | .write _ d => d

/-- The command that a `CMD` data word names, if it names one (R89, R90, R91). -/
def decodeCommand (w : Word) : Option Command :=
  (cmdRows.find? fun row => w &&& row.mask == row.pattern).map CmdRow.op

/-- The instruction that a command is as a row of the opcode table. -/
def Command.instr : Command → Instr
  | .nop => .nop
  | .init => .init
  | .encode => .encode

/-- The instruction that reads a register. -/
def Reg.readInstr : Reg → Instr
  | .id => .rdId
  | .cfg => .rdCfg
  | .dim => .rdDim
  | .kfi => .rdKfi
  | .cmd => .rdCmd
  | .status => .rdStatus
  | .irqEn => .rdIrqEn
  | .frameIdx => .rdFrameIdx
  | .updCount => .rdUpdCount
  | .recLen => .rdRecLen
  | .outData => .rdOutData
  | .outLevel => .rdOutLevel
  | .pixAddr => .rdPixAddr
  | .pixData => .rdPixData
  | .actCfg => .rdActCfg
  | .actDim => .rdActDim
  | .actKfi => .rdActKfi
  | .tiles => .rdTiles
  | .tileBytes => .rdTileBytes
  | .tileCount => .rdTileCount
  | .canvasCap => .rdCanvasCap
  | .prevCap => .rdPrevCap
  | .fifoDepth => .rdFifoDepth

/-- The instruction that writes a register with a data word. -/
def Reg.writeInstr (d : Word) : Reg → Instr
  | .id => .wrId d
  | .cfg => .wrCfg d
  | .dim => .wrDim d
  | .kfi => .wrKfi d
  | .cmd => .wrCmd d
  | .status => .wrStatus d
  | .irqEn => .wrIrqEn d
  | .frameIdx => .wrFrameIdx d
  | .updCount => .wrUpdCount d
  | .recLen => .wrRecLen d
  | .outData => .wrOutData d
  | .outLevel => .wrOutLevel d
  | .pixAddr => .wrPixAddr d
  | .pixData => .wrPixData d
  | .actCfg => .wrActCfg d
  | .actDim => .wrActDim d
  | .actKfi => .wrActKfi d
  | .tiles => .wrTiles d
  | .tileBytes => .wrTileBytes d
  | .tileCount => .wrTileCount d
  | .canvasCap => .wrCanvasCap d
  | .prevCap => .wrPrevCap d
  | .fifoDepth => .wrFifoDepth d

/-- The instruction of a row's operation, with the transaction's data word. -/
def BusOp.instr (d : Word) : BusOp → Instr
  | .rd r => r.readInstr
  | .wr r => r.writeInstr d

/-- Why an item is no instruction of the table. -/
inductive Reject where
  /-- An offset with bits [1:0] not 0 (R65, R84). -/
  | misalignedOffset
  /-- An aligned offset that is not in the register map: 0x05C to 0xFFC (R84). -/
  | unmappedOffset
  /-- A command word other than the three of R90 (R91). -/
  | reservedCommand
deriving DecidableEq, Repr

/-- What the decoder answers. -/
inductive Decoded where
  | instr (i : Instr)
  | reject (r : Reject)
deriving DecidableEq, Repr

/-- Decoding a transaction (R81): the row its code matches gives the instruction; a code that no row matches is
an unmapped access, rejected by name. -/
def decodeTxn (t : Txn) : Decoded :=
  match busRow t.code with
  | some row => .instr (row.op.instr t.data)
  | none => .reject (if t.off.extractLsb' 0 2 == 0 then .unmappedOffset else .misalignedOffset)

/-- An encoded instruction, of one of the table's two formats: a bus transaction, or a command word. -/
inductive Encoded where
  | bus (t : Txn)
  | cmd (w : Word)
deriving DecidableEq, Repr

/-- The decoder, over both formats of the opcode table. -/
def decode : Encoded → Decoded
  | .bus t => decodeTxn t
  | .cmd w =>
    match decodeCommand w with
    | some c => .instr c.instr
    | none => .reject .reservedCommand

/-! ### Encoding -/

/-- The words of an instruction: its transaction (R82), or its command word (R90). -/
def encode : Instr → Encoded
  | .rdId => .bus (.read 0x000)
  | .wrId d => .bus (.write 0x000 d)
  | .rdCfg => .bus (.read 0x004)
  | .wrCfg d => .bus (.write 0x004 d)
  | .rdDim => .bus (.read 0x008)
  | .wrDim d => .bus (.write 0x008 d)
  | .rdKfi => .bus (.read 0x00C)
  | .wrKfi d => .bus (.write 0x00C d)
  | .rdCmd => .bus (.read 0x010)
  | .wrCmd d => .bus (.write 0x010 d)
  | .rdStatus => .bus (.read 0x014)
  | .wrStatus d => .bus (.write 0x014 d)
  | .rdIrqEn => .bus (.read 0x018)
  | .wrIrqEn d => .bus (.write 0x018 d)
  | .rdFrameIdx => .bus (.read 0x01C)
  | .wrFrameIdx d => .bus (.write 0x01C d)
  | .rdUpdCount => .bus (.read 0x020)
  | .wrUpdCount d => .bus (.write 0x020 d)
  | .rdRecLen => .bus (.read 0x024)
  | .wrRecLen d => .bus (.write 0x024 d)
  | .rdOutData => .bus (.read 0x028)
  | .wrOutData d => .bus (.write 0x028 d)
  | .rdOutLevel => .bus (.read 0x02C)
  | .wrOutLevel d => .bus (.write 0x02C d)
  | .rdPixAddr => .bus (.read 0x030)
  | .wrPixAddr d => .bus (.write 0x030 d)
  | .rdPixData => .bus (.read 0x034)
  | .wrPixData d => .bus (.write 0x034 d)
  | .rdActCfg => .bus (.read 0x038)
  | .wrActCfg d => .bus (.write 0x038 d)
  | .rdActDim => .bus (.read 0x03C)
  | .wrActDim d => .bus (.write 0x03C d)
  | .rdActKfi => .bus (.read 0x040)
  | .wrActKfi d => .bus (.write 0x040 d)
  | .rdTiles => .bus (.read 0x044)
  | .wrTiles d => .bus (.write 0x044 d)
  | .rdTileBytes => .bus (.read 0x048)
  | .wrTileBytes d => .bus (.write 0x048 d)
  | .rdTileCount => .bus (.read 0x04C)
  | .wrTileCount d => .bus (.write 0x04C d)
  | .rdCanvasCap => .bus (.read 0x050)
  | .wrCanvasCap d => .bus (.write 0x050 d)
  | .rdPrevCap => .bus (.read 0x054)
  | .wrPrevCap d => .bus (.write 0x054 d)
  | .rdFifoDepth => .bus (.read 0x058)
  | .wrFifoDepth d => .bus (.write 0x058 d)
  | .nop => .cmd 0x00000000
  | .init => .cmd 0x00000001
  | .encode => .cmd 0x00000002

/-- The transaction by which a host runs an instruction: its own for one of format `BUS`, a write of `CMD` for
a command word (R89, R98). -/
def Encoded.txn : Encoded → Txn
  | .bus t => t
  | .cmd w => .write Reg.cmd.offset w

/-! ### The host's table words -/

/-- The encoded item whose bits are `w`, in the opcode table's numbering. A row of format `BUS` gives 13 bits
(two bytes; the data word, which the table gives no bits, is 0), a row of format `CMD` 32 (log
entry 12). -/
def encodedOfTableWord (nbits w : Nat) : Option Encoded :=
  if nbits ≤ 16 then
    if w < 2 ^ 13 then some (.bus (Txn.ofCode (BitVec.ofNat 13 w) 0)) else none
  else if nbits ≤ 32 then
    if w < 2 ^ 32 then some (.cmd (BitVec.ofNat 32 w)) else none
  else none

/-- The instruction the decoder reads from the word `w` of the opcode table, none where it refuses. -/
def decodeTableWord (nbits w : Nat) : Option Instr :=
  match encodedOfTableWord nbits w with
  | none => none
  | some e =>
    match decode e with
    | .instr i => some i
    | .reject _ => none

/-! ### The platform's side of the window -/

/-- The offset that a platform address reaches, if it lies in the window the platform placed at `base`
(`BASE_ADDR`, 00_scope.md R5; 20_memory.md R60). The block does not see `base`, so no step uses this (log entry 14). -/
def windowOffset (base addr : Nat) : Option Offset :=
  if base ≤ addr ∧ addr < base + Config.windowSize then some (BitVec.ofNat 12 (addr - base)) else none

end Sys2Proof
end

