-- ==== Sys2Proof/Machine/State.lean ====
section
/-! DEFINITION. The State: every piece of state that spec/10_state.md gives the block, the implementation
parameters (which are its capability registers), and, marked as the MODEL's own, the environment's side: the
inputs that say which agent steps next, the values the host has read, and the counters of the free values. -/

namespace Sys2Proof.Machine

/-- The fields of `CFG` and of `ACT_CFG` (10_state.md R22); the reserved bits have no storage (R20). -/
structure CfgReg where
  /-- `BPP` = bits [3:0]. -/
  bpp : BitVec 4
  /-- `DIRECT` = bit [4]. -/
  direct : Bool
  /-- `RECFMT` = bit [5]. -/
  recfmt : Bool
deriving DecidableEq, Repr

/-- The fields of `DIM` and of `ACT_DIM` (R23). -/
structure DimReg where
  /-- `WIDTH` = bits [15:0]. -/
  width : BitVec 16
  /-- `HEIGHT` = bits [31:16]. -/
  height : BitVec 16
deriving DecidableEq, Repr

/-- The fields of `IRQ_EN` (R29). -/
structure IrqEnReg where
  /-- `DONE_IE` = bit [0]. -/
  doneIe : Bool
  /-- `ERR_IE` = bit [1]. -/
  errIe : Bool
deriving DecidableEq, Repr

/-- The error codes (60_exceptions.md R271). The reserved codes 0x0A to 0xFF are never written, so none has a
constructor (log entry 17). -/
inductive ErrCode where
  /-- `E_NONE` -/
  | eNone
  /-- `E_CFG_BPP` -/
  | eCfgBpp
  /-- `E_CFG_DIM` -/
  | eCfgDim
  /-- `E_CFG_TILES` -/
  | eCfgTiles
  /-- `E_CFG_CAP` -/
  | eCfgCap
  /-- `E_NOT_CFG` -/
  | eNotCfg
  /-- `E_BUSY` -/
  | eBusy
  /-- `E_PIX_RANGE` -/
  | ePixRange
  /-- `E_BAD_CMD` -/
  | eBadCmd
  /-- `E_BAD_ADDR` -/
  | eBadAddr
deriving DecidableEq, Repr

/-- A memory of `w`-bit cells, as the list of the cells written since its contents were last unspecified:
(address, value) pairs with strictly rising addresses (`Memory.wf`). An address that is not listed has not been
written; it reads as that memory's free value (log entries 3 and 4). -/
abbrev Memory (w : Nat) := List (Nat × BitVec w)

/-- What the environment does next (00_scope.md R11): the host issues a transaction, the engine gets a turn, or
hardware reset happens (70_reset_and_hazards.md R300). -/
inductive Event where
  | host (t : Txn)
  | engine
  | reset
deriving DecidableEq, Repr

/-- The answer to one `Read`: the offset it named and the 32-bit value the host got (30_encoding.md R80). -/
structure BusRead where
  off : Offset
  value : Word
deriving DecidableEq, Repr

structure State where
  /-- `CFG`, staged (R22). -/
  cfg : CfgReg
  /-- `DIM`, staged (R23). -/
  dim : DimReg
  /-- `KFI.KF_INTERVAL`, staged (R24). -/
  kfi : BitVec 16
  /-- `ACT_CFG` (R25). -/
  actCfg : CfgReg
  /-- `ACT_DIM` (R25). -/
  actDim : DimReg
  /-- `ACT_KFI.KF_INTERVAL` (R25). -/
  actKfi : BitVec 16
  /-- `STATUS.CFG_VALID` (R25, R28). -/
  cfgValid : Bool
  /-- `STATUS.DONE` (R28). -/
  done : Bool
  /-- `STATUS.ERR` (R28). -/
  err : Bool
  /-- `STATUS.LAST_KEY` (R32). -/
  lastKey : Bool
  /-- `STATUS.PREV_VALID` (R31). -/
  prevValid : Bool
  /-- `STATUS.ERR_MULTI` (R28). -/
  errMulti : Bool
  /-- `STATUS.ERR_CODE` (R28). -/
  errCode : ErrCode
  /-- `IRQ_EN` (R29). -/
  irqEn : IrqEnReg
  /-- `FRAME_IDX` (R30). -/
  frameIdx : Word
  /-- `UPD_COUNT` (R33). -/
  updCount : BitVec 16
  /-- `REC_LEN` (R34). -/
  recLen : Word
  /-- `PIX_ADDR` (R35). -/
  pixAddr : Word
  /-- `CANVAS_CAP`, the implementation parameter and capability register (R5, R36). -/
  canvasCap : Word
  /-- `PREV_CAP` (R5, R36). -/
  prevCap : Word
  /-- `FIFO_DEPTH`, the parameter `OFIFO_DEPTH` (R5, R36). -/
  fifoDepth : Word
  /-- `OFIFO`, head first (R37). -/
  ofifo : List Byte
  /-- `PENDING`, the record bytes not yet pushed, next one first (R38). -/
  pending : List Byte
  /-- `Canvas`: the samples written since the last hardware reset (R39, R40). -/
  canvas : Memory 9
  /-- `Prev`: the previous-tile bytes written since its contents were last unspecified (R41, R42). -/
  prev : Memory 8
  /-- The MODEL's own: which draw of `CANVAS_INIT` the canvas has, one per hardware reset (R40;
  log entries 2 and 3). -/
  canvasEpoch : Nat
  /-- The MODEL's own: which draw of the unspecified `Prev` contents is in force (R42; log entries 2
  and 4). -/
  prevEpoch : Nat
  /-- The MODEL's own: how many draws reads made while `BUSY = 1` have taken (44_commands.md R217; log
  entries 2 and 5). -/
  readDraws : Nat
  /-- The MODEL's own: what the environment does from here on, next first (20_memory.md R69; log entry 9). -/
  inputs : List Event
  /-- The MODEL's own: what every `Read` of the host has returned, oldest first (30_encoding.md R80; log
  entry 10). -/
  reads : List BusRead
deriving DecidableEq, Repr

/-- There is no fault: "The block never traps and never stops the host" (60_exceptions.md R270), and every
transaction, whatever its offset or data, has an effect that the spec gives (log entry 11). -/
inductive Fault
deriving DecidableEq, Repr

/-- The reasons for a refusal. -/
inductive Refusal where
  /-- Raised by an arm of `exec` for an instruction that has no meaning yet; safe, since the machine stops. No
  arm raises it: every instruction has its meaning. -/
  | notModelled (mnemonic : String)
deriving DecidableEq, Repr

/-- The state after hardware reset (10_state.md R43), for given parameters, inputs and draws: everything that
reset sets. -/
def State.resetWith (canvasCap prevCap fifoDepth : Word) (canvasEpoch prevEpoch readDraws : Nat)
    (inputs : List Event) (reads : List BusRead) : State where
  cfg := ⟨0, false, false⟩
  dim := ⟨0, 0⟩
  kfi := 0
  actCfg := ⟨0, false, false⟩
  actDim := ⟨0, 0⟩
  actKfi := 0
  cfgValid := false
  done := false
  err := false
  lastKey := false
  prevValid := false
  errMulti := false
  errCode := .eNone
  irqEn := ⟨false, false⟩
  frameIdx := 0
  updCount := 0
  recLen := 0
  pixAddr := 0
  canvasCap := canvasCap
  prevCap := prevCap
  fifoDepth := fifoDepth
  ofifo := []
  pending := []
  canvas := []
  prev := []
  canvasEpoch := canvasEpoch
  prevEpoch := prevEpoch
  readDraws := readDraws
  inputs := inputs
  reads := reads

/-- The machine right after hardware reset, with no input pending and nothing read (R43, R301). The three
parameters have the values of Config, a DESIGN CHOICE (log entry 1). -/
def State.reset : State :=
  State.resetWith Config.canvasCapAtReset Config.prevCapAtReset Config.fifoDepthAtReset 0 0 0 [] []

end Sys2Proof.Machine
end

