-- ==== Sys2Proof/Machine/Operands.lean ====
section
/-! DEFINITION. The operand forms: the layouts of the registers in a 32-bit word (10_state.md), the fields of a
`PIX_DATA` word (30_encoding.md R92), the output modes (R85), and the quantities derived from the active
configuration (10_state.md R26). -/

namespace Sys2Proof.Machine

/-! ### Register layouts -/

/-- `CFG` as a word: BPP [3:0], DIRECT [4], RECFMT [5], the rest 0 (R22, R241). -/
def CfgReg.toWord (c : CfgReg) : Word :=
  (BitVec.ofBool c.recfmt ++ BitVec.ofBool c.direct ++ c.bpp).setWidth 32

/-- The fields of `CFG` in a written word; `d[31:6]` is ignored (R241). -/
def CfgReg.ofWord (d : Word) : CfgReg where
  bpp := d.extractLsb' 0 4
  direct := d.getLsbD 4
  recfmt := d.getLsbD 5

/-- `DIM` as a word: WIDTH [15:0], HEIGHT [31:16] (R23, R242). -/
def DimReg.toWord (d : DimReg) : Word := d.height ++ d.width

/-- The fields of `DIM` in a written word (R242). -/
def DimReg.ofWord (d : Word) : DimReg where
  width := d.extractLsb' 0 16
  height := d.extractLsb' 16 16

/-- `KF_INTERVAL` as a word (R24, R243). -/
def kfiToWord (k : BitVec 16) : Word := k.setWidth 32

/-- `KF_INTERVAL` in a written word; `d[31:16]` is ignored (R243). -/
def kfiOfWord (d : Word) : BitVec 16 := d.extractLsb' 0 16

/-- `IRQ_EN` as a word: DONE_IE [0], ERR_IE [1] (R29, R246). -/
def IrqEnReg.toWord (e : IrqEnReg) : Word :=
  (BitVec.ofBool e.errIe ++ BitVec.ofBool e.doneIe).setWidth 32

/-- The fields of `IRQ_EN` in a written word; `d[31:2]` is ignored (R246). -/
def IrqEnReg.ofWord (d : Word) : IrqEnReg where
  doneIe := d.getLsbD 0
  errIe := d.getLsbD 1

/-- `DONE` in a word written to `STATUS` (R28, R245). -/
def statusClearsDone (d : Word) : Bool := d.getLsbD 2

/-- `ERR` in a word written to `STATUS` (R28, R245). -/
def statusClearsErr (d : Word) : Bool := d.getLsbD 3

/-- The word an `OUT_DATA` read returns for a popped byte: VALID is bit 8 (R219). -/
def outDataWord (b : Byte) : Word := 0x00000100 ||| b.setWidth 32

/-! ### The pixel word (R92) -/

/-- The palette index of an indexed mode, `data[7:0]`. -/
def pixIndex (d : Word) : Byte := d.extractLsb' 0 8

/-- `R = data[23:16]`. -/
def pixR (d : Word) : Byte := d.extractLsb' 16 8

/-- `G = data[15:8]`. -/
def pixG (d : Word) : Byte := d.extractLsb' 8 8

/-- `B = data[7:0]`. -/
def pixB (d : Word) : Byte := d.extractLsb' 0 8

/-! ### Output modes (R85) -/

/-- The six output modes (R85). -/
inductive Mode where
  | idx1
  | idx2
  | idx4
  | idx8
  | rgb332
  | rgb333
deriving DecidableEq, Repr

/-- The mode that a `(DIRECT, BPP)` pair names; every other pair is illegal (R85). -/
def CfgReg.mode (c : CfgReg) : Option Mode :=
  match c.direct, c.bpp.toNat with
  | false, 1 => some .idx1
  | false, 2 => some .idx2
  | false, 4 => some .idx4
  | false, 8 => some .idx8
  | true, 8 => some .rgb332
  | true, 9 => some .rgb333
  | _, _ => none

/-- `TILE_BYTES` of a mode (R26, R85). -/
def Mode.tileBytes : Mode → Nat
  | .idx1 => 8
  | .idx2 => 16
  | .idx4 => 32
  | .idx8 => 64
  | .rgb332 => 64
  | .rgb333 => 128

/-! ### Derived quantities (R26) -/

/-- `TILES_X = WIDTH div 8`. -/
def DimReg.tilesX (d : DimReg) : Nat := d.width.toNat / 8

/-- `TILES_Y = HEIGHT div 8`. -/
def DimReg.tilesY (d : DimReg) : Nat := d.height.toNat / 8

/-- `TILE_COUNT = TILES_X * TILES_Y`. -/
def DimReg.tileCount (d : DimReg) : Nat := d.tilesX * d.tilesY

/-- `NPIX = WIDTH * HEIGHT`. -/
def DimReg.npix (d : DimReg) : Nat := d.width.toNat * d.height.toNat

/-- `TILE_BYTES`, 0 for an illegal pair. -/
def CfgReg.tileBytes (c : CfgReg) : Nat :=
  match c.mode with
  | some m => m.tileBytes
  | none => 0

/-- `TILE_COUNT` of the active configuration. -/
def State.tileCount (s : State) : Nat := s.actDim.tileCount

/-- `NPIX` of the active configuration. -/
def State.npix (s : State) : Nat := s.actDim.npix

/-- `TILE_BYTES` of the active configuration. -/
def State.tileBytes (s : State) : Nat := s.actCfg.tileBytes

/-- How many bytes of `Prev` the active configuration uses (10_state.md R41). -/
def State.prevExtent (s : State) : Nat := s.tileCount * s.tileBytes

/-- The word a `TILES` read returns: TILES_X [15:0], TILES_Y [31:16] (R251). -/
def DimReg.tilesWord (d : DimReg) : Word := BitVec.ofNat 16 d.tilesY ++ BitVec.ofNat 16 d.tilesX

/-- The linear canvas index of pixel `(x, y)`: raster order (20_memory.md R62). -/
def DimReg.pixelIndex (d : DimReg) (x y : Nat) : Nat := y * d.width.toNat + x

/-! ### Validation of the staged configuration -/

/-- `CfgCheck` (44_commands.md R214): the first failing check's code, in the order of the rule. -/
def cfgCheck (c : CfgReg) (d : DimReg) (canvasCap prevCap : Word) : ErrCode :=
  match c.mode with
  | none => .eCfgBpp
  | some m =>
    if d.width.toNat = 0 ∨ d.height.toNat = 0 ∨ d.width.toNat % 8 ≠ 0 ∨ d.height.toNat % 8 ≠ 0 then .eCfgDim
    else if d.tileCount > 65535 then .eCfgTiles
    else if d.npix > canvasCap.toNat ∨ d.tileCount * m.tileBytes > prevCap.toNat then .eCfgCap
    else .eNone

/-! ### Byte order -/

/-- `le16`: a 16-bit value as two bytes, the low one first (00_scope.md R9, 20_memory.md R64). -/
def le16 (v : Nat) : List Byte := [BitVec.ofNat 8 v, BitVec.ofNat 8 (v / 256)]

end Sys2Proof.Machine
end

