-- ==== Sys2Proof/Machine/Flags.lean ====
section
/-! DEFINITION. The flag computations: `BUSY`, the `STATUS` word, the error codes and the interrupt output. -/

namespace Sys2Proof.Machine

/-- `STATUS.BUSY = (PENDING != [])` (10_state.md R38). -/
def State.busy (s : State) : Bool := !s.pending.isEmpty

/-- The value of an error code (60_exceptions.md R271). -/
def ErrCode.toBits : ErrCode → Byte
  | .eNone => 0x00
  | .eCfgBpp => 0x01
  | .eCfgDim => 0x02
  | .eCfgTiles => 0x03
  | .eCfgCap => 0x04
  | .eNotCfg => 0x05
  | .eBusy => 0x06
  | .ePixRange => 0x07
  | .eBadCmd => 0x08
  | .eBadAddr => 0x09

/-- The `STATUS` word (10_state.md R28, 45_register_access.md R244), from its highest bit down: bits [31:16]
reserved, ERR_CODE [15:8], bit [7] reserved, ERR_MULTI [6], PREV_VALID [5], LAST_KEY [4], ERR [3], DONE [2],
CFG_VALID [1], BUSY [0]. The values of PREV_VALID and LAST_KEY are arguments: a read made while `BUSY = 1`
draws them (44_commands.md R217). -/
def State.statusWord (s : State) (prevValid lastKey : Bool) : Word :=
  0#16 ++ s.errCode.toBits ++ 0#1 ++ BitVec.ofBool s.errMulti ++ BitVec.ofBool prevValid ++
    BitVec.ofBool lastKey ++ BitVec.ofBool s.err ++ BitVec.ofBool s.done ++ BitVec.ofBool s.cfgValid ++
    BitVec.ofBool s.busy

/-- The interrupt output, a function of the state (60_exceptions.md R280). -/
def State.irq (s : State) : Bool := (s.done && s.irqEn.doneIe) || (s.err && s.irqEn.errIe)

/-- Keyframe classification (42_tile_diff.md R160). -/
def State.isKey (s : State) : Bool :=
  !s.prevValid || (s.actKfi.toNat != 0 && s.frameIdx.toNat % s.actKfi.toNat == 0)

end Sys2Proof.Machine
end

