-- ==== Sys2Proof/Machine/Ops.lean ====
section
/-! DEFINITION. The shared operations: memory, the canvas and the previous-tile store, the answer to a read,
the raising and the clearing of an error, the unmapped access, and hardware reset. -/

namespace Sys2Proof.Machine

/-! ### Memory -/

/-- The canonical form: strictly rising addresses. Two memories in this form that list the same cells are
equal. -/
abbrev Memory.wf {w : Nat} (m : Memory w) : Prop := m.Pairwise fun c c' => c.1 < c'.1

/-- Every listed address is below `cap`. -/
abbrev Memory.below {w : Nat} (m : Memory w) (cap : Nat) : Prop := ∀ c ∈ m, c.1 < cap

/-- The value written at an address, none if nothing is. -/
def Memory.read {w : Nat} : Memory w → Nat → Option (BitVec w)
  | [], _ => none
  | (b, v) :: rest, a => if a = b then some v else Memory.read rest a

/-- Writing one cell, in place. -/
def Memory.write {w : Nat} : Memory w → Nat → BitVec w → Memory w
  | [], a, v => [(a, v)]
  | (b, u) :: rest, a, v =>
    if a < b then (a, v) :: (b, u) :: rest
    else if a = b then (a, v) :: rest
    else (b, u) :: Memory.write rest a v

/-- The cells that hold `vs` from address `base` on. -/
def Memory.cells {w : Nat} (base : Nat) : List (BitVec w) → Memory w
  | [] => []
  | v :: vs => (base, v) :: Memory.cells (base + 1) vs

/-- Writing `vs` at the addresses from 0 on; the cells above stay. -/
def Memory.writePrefix {w : Nat} (m : Memory w) (vs : List (BitVec w)) : Memory w :=
  Memory.cells 0 vs ++ m.filter fun c => vs.length ≤ c.1

/-- `Canvas[i]`: the sample written, or the one drawn at the last hardware reset (10_state.md R39, R40). -/
def State.canvasAt (s : State) (i : Nat) : Sample :=
  (s.canvas.read i).getD (Config.canvasInit s.canvasEpoch i)

/-- `Canvas[i] <- v`. -/
def State.writeCanvas (s : State) (i : Nat) (v : Sample) : State := { s with canvas := s.canvas.write i v }

/-- Byte `a` of the previous-tile space (R41, R42). -/
def State.prevByte (s : State) (a : Nat) : Byte := (s.prev.read a).getD (Config.prevInit s.prevEpoch a)

/-- `Prev[t]`: the buffer retained for tile `t`, at bytes `[t * TILE_BYTES, (t + 1) * TILE_BYTES)` (R41,
20_memory.md R63). -/
def State.prevTile (s : State) (t : Nat) : List Byte :=
  (List.range s.tileBytes).map fun k => s.prevByte (t * s.tileBytes + k)

/-! ### The answer to a read -/

/-- The host gets `v` from a read of offset `off` (30_encoding.md R80). -/
def State.respond (s : State) (off : Offset) (v : Word) : State := { s with reads := s.reads ++ [⟨off, v⟩] }

/-- The answer to a read of a register that is unspecified while `BUSY = 1` (44_commands.md R217): `exact` if
the block is idle, else the draw numbered `readDraws`, which the read uses up. -/
def State.respondUnlessBusy (s : State) (off : Offset) (exact : Word) (drawn : Nat → Word) : State :=
  if s.busy then { s with readDraws := s.readDraws + 1 }.respond off (drawn s.readDraws) else s.respond off exact

/-! ### Errors: the block's counterpart of taking an exception, and of returning from one -/

/-- `raise Error(code)` (60_exceptions.md R276): the first error's code is captured, a further one only sets
`ERR_MULTI`. Nothing else is saved and control is never redirected (R275). -/
def State.raiseError (s : State) (code : ErrCode) : State :=
  if s.err then { s with errMulti := true } else { s with err := true, errCode := code }

/-- Clearing the capture (R277): a write of 1 to `STATUS.ERR` clears `ERR`, `ERR_MULTI` and `ERR_CODE`. -/
def State.clearError (s : State) : State := { s with err := false, errMulti := false, errCode := .eNone }

/-- An unmapped access (45_register_access.md R256): `E_BAD_ADDR`; a read returns 0 and a write does nothing
else. -/
def State.unmappedAccess (s : State) : Txn → State
  | .read off => (s.raiseError .eBadAddr).respond off 0
  | .write _ _ => s.raiseError .eBadAddr

/-! ### Hardware reset -/

/-- `Reset` (70_reset_and_hazards.md R300), in any state: every state element to its reset value, with a new
draw of the canvas (R40) and of the unspecified `Prev` (R42). The parameters stay, and so does the
environment's side: what it does next, what the host has read, and the count of draws (log entry 13). -/
def State.hardReset (s : State) : State :=
  State.resetWith s.canvasCap s.prevCap s.fifoDepth (s.canvasEpoch + 1) (s.prevEpoch + 1) s.readDraws s.inputs
    s.reads

end Sys2Proof.Machine
end

