-- ==== Sys2Proof/Machine/Engine.lean ====
section
/-! DEFINITION. The engine, whose one step pushes one byte of the record in progress (44_commands.md R218). -/

namespace Sys2Proof.Machine

/-- Whether the engine's step is enabled: `PENDING != []` and `len(OFIFO) < OFIFO_DEPTH` (R218). -/
def State.engineEnabled (s : State) : Bool := s.busy && decide (s.ofifo.length < s.fifoDepth.toNat)

/-- The engine step (R218); `DONE` is set with the last byte. -/
def State.engineStep (s : State) : State :=
  match s.pending with
  | [] => s
  | b :: rest =>
    { s with pending := rest, ofifo := s.ofifo ++ [b], done := if rest = [] then true else s.done }

/-- The engine's turn: its step if enabled, else nothing, since it has no other step. -/
def State.engineTurn (s : State) : State := if s.engineEnabled then s.engineStep else s

end Sys2Proof.Machine
end

