-- ==== Sys2Proof/Machine/Packer.lean ====
section
/-! DEFINITION. The tile bit-packer (spec/41_tile_packer.md). -/

namespace Sys2Proof.Machine

/-- The canvas index of pixel number `p` of tile `t` (R140, R141): `tx = t mod TILES_X`, `ty = t div TILES_X`,
row `r = p div 8` and column `c = p mod 8` of the tile. -/
def DimReg.tilePixel (d : DimReg) (t p : Nat) : Nat :=
  d.pixelIndex (t % d.tilesX * 8 + p % 8) (t / d.tilesX * 8 + p / 8)

/-- `s_p`: the sample of pixel number `p` of tile `t` (R141). -/
def State.tileSample (s : State) (t p : Nat) : Sample := s.canvasAt (s.actDim.tilePixel t p)

/-- Bit `k` of the stream of an indexed tile (R142): `S[k] = s_p[n - 1 - j]`, `p = k div n`, `j = k mod n`. -/
def streamBit (n : Nat) (sample : Nat → Sample) (k : Nat) : Bool :=
  (sample (k / n)).getLsbD (n - 1 - k % n)

/-- Byte `N` of a stream (R143): stream bits `8N` to `8N + 7`, the earliest in the most significant position. -/
def streamByte (bit : Nat → Bool) (N : Nat) : Byte :=
  ((List.range 8).map fun i => BitVec.setWidth 8 (BitVec.ofBool (bit (8 * N + i))) <<< (7 - i)).foldl (· ||| ·) 0

/-- Indexed packing at `n` bits per pixel: `8 * n` bytes (R142, R143). -/
def packIndexed (n : Nat) (sample : Nat → Sample) : List Byte :=
  (List.range (8 * n)).map (streamByte (streamBit n sample))

/-- RGB332 packing: one byte per pixel (R145). -/
def packRgb332 (sample : Nat → Sample) : List Byte :=
  (List.range 64).map fun p => (sample p).extractLsb' 0 8

/-- RGB333 packing: one little-endian 16-bit word per pixel (R146). -/
def packRgb333 (sample : Nat → Sample) : List Byte :=
  (List.range 64).flatMap fun p => [(sample p).extractLsb' 0 8, ((sample p).extractLsb' 8 1).setWidth 8]

/-- The packed bytes of the 64 samples of a tile in a mode (R142 to R146). -/
def Mode.pack : Mode → (Nat → Sample) → List Byte
  | .idx1, sample => packIndexed 1 sample
  | .idx2, sample => packIndexed 2 sample
  | .idx4, sample => packIndexed 4 sample
  | .idx8, sample => packIndexed 8 sample
  | .rgb332, sample => packRgb332 sample
  | .rgb333, sample => packRgb333 sample

/-- `PackTile(t)` (R140): the `TILE_BYTES` bytes of tile `t`; none without a mode, where `TILE_BYTES = 0`
(10_state.md R26). -/
def State.packTile (s : State) (t : Nat) : List Byte :=
  match s.actCfg.mode with
  | some m => m.pack (s.tileSample t)
  | none => []

end Sys2Proof.Machine
end

