-- ==== Sys2Proof/Machine/Differ.lean ====
section
/-! DEFINITION. The tile-diff comparator (spec/42_tile_diff.md). The keyframe classifier is `State.isKey`
(Machine/Flags.lean). -/

namespace Sys2Proof.Machine

/-- `Changed(t)` (R162): on a keyframe every tile; else full inequality of the tile's bytes and the retained
ones. -/
def State.changed (s : State) (t : Nat) : Bool := s.isKey || s.packTile t != s.prevTile t

/-- The update list `U` (R163), in ascending order of the tile index. -/
def State.updates (s : State) : List Nat := (List.range s.tileCount).filter s.changed

/-- The tile buffers of the current canvas, in tile order: what `Prev` holds afterwards (R164). -/
def State.currentTiles (s : State) : List Byte := (List.range s.tileCount).flatMap s.packTile

/-- `Prev[t] <- cur_t` for every tile, and `PREV_VALID <- 1` (R164). -/
def State.retainTiles (s : State) : State :=
  { s with prev := s.prev.writePrefix s.currentTiles, prevValid := true }

end Sys2Proof.Machine
end

