-- ==== Sys2Proof/Machine/SkipRle.lean ====
section
/-! DEFINITION. The skip-RLE tile-update encoder and the frame records (spec/43_skip_rle.md). -/

namespace Sys2Proof.Machine

/-- The gap loop of `SkipEncode` (R180): while the gap is at least 255, emit 255 and take 255 off; then emit
what is left. The first argument bounds the turns of the loop. -/
def skipLoop : Nat → Nat → List Byte
  | 0, gap => [BitVec.ofNat 8 gap]
  | fuel + 1, gap => if gap ≥ 255 then 255 :: skipLoop fuel (gap - 255) else [BitVec.ofNat 8 gap]

/-- The skip bytes of a gap (R180, R181); a gap takes fewer turns of the loop than its value. -/
def skipBytes (gap : Nat) : List Byte := skipLoop gap gap

/-- The body of `SkipEncode` (R180) from a given `prevIndex` on. -/
def skipEncodeFrom (cur : Nat → List Byte) : Nat → List Nat → List Byte
  | _, [] => []
  | prevIndex, t :: rest => skipBytes (t - prevIndex) ++ cur t ++ skipEncodeFrom cur (t + 1) rest

/-- `SkipEncode(U, cur)` (R180): `prevIndex` starts at 0 in every record (R182). -/
def skipEncode (U : List Nat) (cur : Nat → List Byte) : List Byte := skipEncodeFrom cur 0 U

/-- The flags byte: bit 0 says keyframe, the others are 0 (30_encoding.md R96). -/
def flagsByte (isKey : Bool) : Byte := (BitVec.ofBool isKey).setWidth 8

/-- `RecordSkip` (R183). -/
def recordSkip (isKey : Bool) (U : List Nat) (cur : Nat → List Byte) : List Byte :=
  [flagsByte isKey] ++ le16 U.length ++ skipEncode U cur

/-- `RecordFlat` (R184). -/
def recordFlat (U : List Nat) (cur : Nat → List Byte) : List Byte :=
  le16 U.length ++ U.flatMap fun t => le16 t ++ cur t

/-- The record of the current frame, in the form `RECFMT` selects (30_encoding.md R86, 44_commands.md R216). -/
def State.record (s : State) : List Byte :=
  if s.actCfg.recfmt then recordFlat s.updates s.packTile else recordSkip s.isKey s.updates s.packTile

end Sys2Proof.Machine
end

