-- ==== Sys2Proof/Machine/Commands.lean ====
section
/-! DEFINITION. The command register, the three commands, and the output FIFO's registers
(spec/44_commands.md). -/

namespace Sys2Proof.Machine

/-! ### The commands as operations on the state -/

/-- `NOP` (R212): no state changes, in every state. -/
def State.cmdNop (s : State) : State := s

/-- The session reset of `INIT` (R213), done whether or not the configuration is valid. What `Prev` holds
afterwards is unspecified (10_state.md R42): a new draw. -/
def State.sessionReset (s : State) : State :=
  { s with
    frameIdx := 0
    prevValid := false
    lastKey := false
    updCount := 0
    recLen := 0
    done := false
    ofifo := []
    prev := []
    prevEpoch := s.prevEpoch + 1 }

/-- The staged configuration goes into force (R213). -/
def State.latchConfig (s : State) : State :=
  { s with actCfg := s.cfg, actDim := s.dim, actKfi := s.kfi, cfgValid := true }

/-- `CfgCheck` of the staged configuration (R214). -/
def State.stagedCheck (s : State) : ErrCode := cfgCheck s.cfg s.dim s.canvasCap s.prevCap

/-- `INIT` (R213): refused while busy; else the session reset, and then the staged configuration goes into force
or its error is raised. -/
def State.cmdInit (s : State) : State :=
  if s.busy then s.raiseError .eBusy
  else if s.stagedCheck = .eNone then s.sessionReset.latchConfig
  else { s.sessionReset with cfgValid := false }.raiseError s.stagedCheck

/-- `ENCODE` once accepted (R216), in one atomic step (20_memory.md R68). -/
def State.acceptFrame (s : State) : State :=
  { s.retainTiles with
    frameIdx := s.frameIdx + 1
    lastKey := s.isKey
    updCount := BitVec.ofNat 16 s.updates.length
    recLen := BitVec.ofNat 32 s.record.length
    done := false
    pending := s.record }

/-- `ENCODE` (R215, R216): refused while busy or not configured. -/
def State.cmdEncode (s : State) : State :=
  if s.busy then s.raiseError .eBusy
  else if !s.cfgValid then s.raiseError .eNotCfg
  else s.acceptFrame

/-- The dispatch of a `CMD` write (R210): the word is decoded before any state is looked at. -/
def State.issueCommand (s : State) (d : Word) : State :=
  match decodeCommand d with
  | none => s.raiseError .eBadCmd
  | some .nop => s.cmdNop
  | some .init => s.cmdInit
  | some .encode => s.cmdEncode

/-- Popping the output FIFO (R219): the head with VALID set, or 0 and nothing popped. -/
def State.popOutput (s : State) : State :=
  match s.ofifo with
  | [] => s.respond Reg.outData.offset 0
  | b :: rest => { s with ofifo := rest }.respond Reg.outData.offset (outDataWord b)

/-! ### The meanings -/

/-- `RD_CMD` (R211): returns 0. -/
def execRdCmd (s : State) : Host.Outcome State Fault Refusal := .next (s.respond Reg.cmd.offset 0)

/-- `WR_CMD` (R210). -/
def execWrCmd (d : Word) (s : State) : Host.Outcome State Fault Refusal := .next (s.issueCommand d)

/-- The command word `NOP` (R212). -/
def execNop (s : State) : Host.Outcome State Fault Refusal := .next s.cmdNop

/-- The command word `INIT` (R213). -/
def execInit (s : State) : Host.Outcome State Fault Refusal := .next s.cmdInit

/-- The command word `ENCODE` (R215, R216). -/
def execEncode (s : State) : Host.Outcome State Fault Refusal := .next s.cmdEncode

/-- `RD_OUT_DATA` (R219). -/
def execRdOutData (s : State) : Host.Outcome State Fault Refusal := .next s.popOutput

/-- `RD_OUT_LEVEL` (R220): `len(OFIFO)`. -/
def execRdOutLevel (s : State) : Host.Outcome State Fault Refusal :=
  .next (s.respond Reg.outLevel.offset (BitVec.ofNat 32 s.ofifo.length))

end Sys2Proof.Machine
end

