-- ==== Sys2Proof/Machine/Quantizer.lean ====
section
/-! DEFINITION. The pixel quantizer (spec/40_quantizer.md). -/

namespace Sys2Proof.Machine

/-- `Quantize` in the indexed modes: the index unchanged (R121). -/
def quantizeIndexed (d : Word) : Sample := (pixIndex d).setWidth 9

/-- `Quantize` in mode RGB332 (R122); the blue term is masked in place, not shifted. -/
def quantizeRgb332 (d : Word) : Sample :=
  let r := pixR d
  let g := pixG d
  let b := pixB d
  ((r >>> 5) ||| ((g >>> 5) <<< 3) ||| (b &&& 0b11000000)).setWidth 9

/-- `Quantize` in mode RGB333 (R123), in 9 bits. -/
def quantizeRgb333 (d : Word) : Sample :=
  let r := (pixR d).setWidth 9
  let g := (pixG d).setWidth 9
  let b := (pixB d).setWidth 9
  ((b >>> 5) <<< 6) ||| ((g >>> 5) <<< 3) ||| (r >>> 5)

/-- `Quantize` in a mode (R121 to R124). -/
def Mode.quantize : Mode → Word → Sample
  | .idx1, d => quantizeIndexed d
  | .idx2, d => quantizeIndexed d
  | .idx4, d => quantizeIndexed d
  | .idx8, d => quantizeIndexed d
  | .rgb332, d => quantizeRgb332 d
  | .rgb333, d => quantizeRgb333 d

/-- `Quantize` under a configuration. A valid configuration has a mode (`Inv.active`), so the last arm is never
reached; it is there because `CFG_VALID` and the mode are separate fields of the State (log entry 8). -/
def CfgReg.quantize (c : CfgReg) (d : Word) : Sample :=
  match c.mode with
  | some m => m.quantize d
  | none => quantizeIndexed d

end Sys2Proof.Machine
end

