-- ==== Sys2Proof/Machine/PixelPort.lean ====
section
/-! DEFINITION. The pixel port (spec/40_quantizer.md). -/

namespace Sys2Proof.Machine

/-- Storing an accepted pixel (R120): the sample at `PIX_ADDR`, and `PIX_ADDR <- (i + 1) mod 2^32`. -/
def State.storePixel (s : State) (d : Word) : State :=
  { s.writeCanvas s.pixAddr.toNat (s.actCfg.quantize d) with pixAddr := s.pixAddr + 1 }

/-- `WR_PIX_DATA` (R120). -/
def execWrPixData (d : Word) (s : State) : Host.Outcome State Fault Refusal :=
  if s.busy then .next (s.raiseError .eBusy)
  else if !s.cfgValid then .next (s.raiseError .eNotCfg)
  else if s.pixAddr.toNat ≥ s.npix then .next (s.raiseError .ePixRange)
  else .next (s.storePixel d)

/-- `RD_PIX_DATA` (R125): a failing read returns 0; `PIX_ADDR` is not incremented. -/
def execRdPixData (s : State) : Host.Outcome State Fault Refusal :=
  if !s.cfgValid then .next ((s.raiseError .eNotCfg).respond Reg.pixData.offset 0)
  else if s.pixAddr.toNat ≥ s.npix then .next ((s.raiseError .ePixRange).respond Reg.pixData.offset 0)
  else .next (s.respond Reg.pixData.offset ((s.canvasAt s.pixAddr.toNat).setWidth 32))

/-- `WR_PIX_ADDR` (R126): any value, in any state. -/
def execWrPixAddr (d : Word) (s : State) : Host.Outcome State Fault Refusal := .next { s with pixAddr := d }

/-- `RD_PIX_ADDR` (R127). -/
def execRdPixAddr (s : State) : Host.Outcome State Fault Refusal := .next (s.respond Reg.pixAddr.offset s.pixAddr)

end Sys2Proof.Machine
end

