-- ==== Sys2Proof/Machine/RegisterAccess.lean ====
section
/-! DEFINITION. Register access (spec/45_register_access.md): every register that the pixel port and the commands
do not cover, and the writes of read-only registers. -/

namespace Sys2Proof.Machine

/-! ### Identification and configuration -/

/-- `RD_ID` (R240). -/
def execRdId (s : State) : Host.Outcome State Fault Refusal := .next (s.respond Reg.id.offset Config.idValue)

/-- `RD_CFG` (R241). -/
def execRdCfg (s : State) : Host.Outcome State Fault Refusal := .next (s.respond Reg.cfg.offset s.cfg.toWord)

/-- `WR_CFG` (R241): staged only, in every state. -/
def execWrCfg (d : Word) (s : State) : Host.Outcome State Fault Refusal := .next { s with cfg := CfgReg.ofWord d }

/-- `RD_DIM` (R242). -/
def execRdDim (s : State) : Host.Outcome State Fault Refusal := .next (s.respond Reg.dim.offset s.dim.toWord)

/-- `WR_DIM` (R242): staged only, in every state. -/
def execWrDim (d : Word) (s : State) : Host.Outcome State Fault Refusal := .next { s with dim := DimReg.ofWord d }

/-- `RD_KFI` (R243). -/
def execRdKfi (s : State) : Host.Outcome State Fault Refusal := .next (s.respond Reg.kfi.offset (kfiToWord s.kfi))

/-- `WR_KFI` (R243): staged only, in every state. -/
def execWrKfi (d : Word) (s : State) : Host.Outcome State Fault Refusal := .next { s with kfi := kfiOfWord d }

/-! ### Status and interrupt enable -/

/-- `RD_STATUS` (R244). While `BUSY = 1` bits 5 and 4 are draws (44_commands.md R217). -/
def execRdStatus (s : State) : Host.Outcome State Fault Refusal :=
  .next (s.respondUnlessBusy Reg.status.offset (s.statusWord s.prevValid s.lastKey)
    fun n => s.statusWord (Config.busyPrevValid n) (Config.busyLastKey n))

/-- `WR_STATUS` (R245): the W1C bits written as 1. -/
def execWrStatus (d : Word) (s : State) : Host.Outcome State Fault Refusal :=
  let s1 := if statusClearsDone d then { s with done := false } else s
  .next (if statusClearsErr d then s1.clearError else s1)

/-- `RD_IRQ_EN` (R246). -/
def execRdIrqEn (s : State) : Host.Outcome State Fault Refusal := .next (s.respond Reg.irqEn.offset s.irqEn.toWord)

/-- `WR_IRQ_EN` (R246). -/
def execWrIrqEn (d : Word) (s : State) : Host.Outcome State Fault Refusal := .next { s with irqEn := IrqEnReg.ofWord d }

/-! ### Session registers: unspecified while `BUSY = 1` (44_commands.md R217) -/

/-- `RD_FRAME_IDX` (R247). -/
def execRdFrameIdx (s : State) : Host.Outcome State Fault Refusal :=
  .next (s.respondUnlessBusy Reg.frameIdx.offset s.frameIdx Config.busyFrameIdx)

/-- `RD_UPD_COUNT` (R248): 16 bits, zero-extended. -/
def execRdUpdCount (s : State) : Host.Outcome State Fault Refusal :=
  .next (s.respondUnlessBusy Reg.updCount.offset (s.updCount.setWidth 32) fun n => (Config.busyUpdCount n).setWidth 32)

/-- `RD_REC_LEN` (R249). -/
def execRdRecLen (s : State) : Host.Outcome State Fault Refusal :=
  .next (s.respondUnlessBusy Reg.recLen.offset s.recLen Config.busyRecLen)

/-! ### Active configuration and geometry -/

/-- `RD_ACT_CFG` (R250). -/
def execRdActCfg (s : State) : Host.Outcome State Fault Refusal := .next (s.respond Reg.actCfg.offset s.actCfg.toWord)

/-- `RD_ACT_DIM` (R250). -/
def execRdActDim (s : State) : Host.Outcome State Fault Refusal := .next (s.respond Reg.actDim.offset s.actDim.toWord)

/-- `RD_ACT_KFI` (R250). -/
def execRdActKfi (s : State) : Host.Outcome State Fault Refusal := .next (s.respond Reg.actKfi.offset (kfiToWord s.actKfi))

/-- `RD_TILES` (R251). -/
def execRdTiles (s : State) : Host.Outcome State Fault Refusal := .next (s.respond Reg.tiles.offset s.actDim.tilesWord)

/-- `RD_TILE_BYTES` (R252). -/
def execRdTileBytes (s : State) : Host.Outcome State Fault Refusal :=
  .next (s.respond Reg.tileBytes.offset (BitVec.ofNat 32 s.tileBytes))

/-- `RD_TILE_COUNT` (R253). -/
def execRdTileCount (s : State) : Host.Outcome State Fault Refusal :=
  .next (s.respond Reg.tileCount.offset (BitVec.ofNat 32 s.tileCount))

/-! ### Capabilities -/

/-- `RD_CANVAS_CAP` (R254). -/
def execRdCanvasCap (s : State) : Host.Outcome State Fault Refusal := .next (s.respond Reg.canvasCap.offset s.canvasCap)

/-- `RD_PREV_CAP` (R254). -/
def execRdPrevCap (s : State) : Host.Outcome State Fault Refusal := .next (s.respond Reg.prevCap.offset s.prevCap)

/-- `RD_FIFO_DEPTH` (R254). -/
def execRdFifoDepth (s : State) : Host.Outcome State Fault Refusal := .next (s.respond Reg.fifoDepth.offset s.fifoDepth)

/-! ### Writes to read-only registers (R255) -/

/-- A write to a read-only register changes nothing and raises no error (R255). -/
def State.ignoreWrite (s : State) (_d : Word) : State := s

/-- `WR_ID` (R255). -/
def execWrId (d : Word) (s : State) : Host.Outcome State Fault Refusal := .next (s.ignoreWrite d)

/-- `WR_FRAME_IDX` (R255). -/
def execWrFrameIdx (d : Word) (s : State) : Host.Outcome State Fault Refusal := .next (s.ignoreWrite d)

/-- `WR_UPD_COUNT` (R255). -/
def execWrUpdCount (d : Word) (s : State) : Host.Outcome State Fault Refusal := .next (s.ignoreWrite d)

/-- `WR_REC_LEN` (R255). -/
def execWrRecLen (d : Word) (s : State) : Host.Outcome State Fault Refusal := .next (s.ignoreWrite d)

/-- `WR_OUT_DATA` (R255): nothing is pushed into the FIFO. -/
def execWrOutData (d : Word) (s : State) : Host.Outcome State Fault Refusal := .next (s.ignoreWrite d)

/-- `WR_OUT_LEVEL` (R255). -/
def execWrOutLevel (d : Word) (s : State) : Host.Outcome State Fault Refusal := .next (s.ignoreWrite d)

/-- `WR_ACT_CFG` (R255). -/
def execWrActCfg (d : Word) (s : State) : Host.Outcome State Fault Refusal := .next (s.ignoreWrite d)

/-- `WR_ACT_DIM` (R255). -/
def execWrActDim (d : Word) (s : State) : Host.Outcome State Fault Refusal := .next (s.ignoreWrite d)

/-- `WR_ACT_KFI` (R255). -/
def execWrActKfi (d : Word) (s : State) : Host.Outcome State Fault Refusal := .next (s.ignoreWrite d)

/-- `WR_TILES` (R255). -/
def execWrTiles (d : Word) (s : State) : Host.Outcome State Fault Refusal := .next (s.ignoreWrite d)

/-- `WR_TILE_BYTES` (R255). -/
def execWrTileBytes (d : Word) (s : State) : Host.Outcome State Fault Refusal := .next (s.ignoreWrite d)

/-- `WR_TILE_COUNT` (R255). -/
def execWrTileCount (d : Word) (s : State) : Host.Outcome State Fault Refusal := .next (s.ignoreWrite d)

/-- `WR_CANVAS_CAP` (R255). -/
def execWrCanvasCap (d : Word) (s : State) : Host.Outcome State Fault Refusal := .next (s.ignoreWrite d)

/-- `WR_PREV_CAP` (R255). -/
def execWrPrevCap (d : Word) (s : State) : Host.Outcome State Fault Refusal := .next (s.ignoreWrite d)

/-- `WR_FIFO_DEPTH` (R255). -/
def execWrFifoDepth (d : Word) (s : State) : Host.Outcome State Fault Refusal := .next (s.ignoreWrite d)

end Sys2Proof.Machine
end

