-- ==== Sys2Proof/Machine/Dispatch.lean ====
section
/-! DEFINITION. The dispatch: one arm per constructor of `Instr`, each one call of that instruction's meaning. -/

namespace Sys2Proof.Machine

def exec (i : Instr) (s : State) : Host.Outcome State Fault Refusal :=
  match i with
  | .rdId => Sys2Proof.Machine.execRdId s
  | .wrId d => Sys2Proof.Machine.execWrId d s
  | .rdCfg => Sys2Proof.Machine.execRdCfg s
  | .wrCfg d => Sys2Proof.Machine.execWrCfg d s
  | .rdDim => Sys2Proof.Machine.execRdDim s
  | .wrDim d => Sys2Proof.Machine.execWrDim d s
  | .rdKfi => Sys2Proof.Machine.execRdKfi s
  | .wrKfi d => Sys2Proof.Machine.execWrKfi d s
  | .rdCmd => Sys2Proof.Machine.execRdCmd s
  | .wrCmd d => Sys2Proof.Machine.execWrCmd d s
  | .rdStatus => Sys2Proof.Machine.execRdStatus s
  | .wrStatus d => Sys2Proof.Machine.execWrStatus d s
  | .rdIrqEn => Sys2Proof.Machine.execRdIrqEn s
  | .wrIrqEn d => Sys2Proof.Machine.execWrIrqEn d s
  | .rdFrameIdx => Sys2Proof.Machine.execRdFrameIdx s
  | .wrFrameIdx d => Sys2Proof.Machine.execWrFrameIdx d s
  | .rdUpdCount => Sys2Proof.Machine.execRdUpdCount s
  | .wrUpdCount d => Sys2Proof.Machine.execWrUpdCount d s
  | .rdRecLen => Sys2Proof.Machine.execRdRecLen s
  | .wrRecLen d => Sys2Proof.Machine.execWrRecLen d s
  | .rdOutData => Sys2Proof.Machine.execRdOutData s
  | .wrOutData d => Sys2Proof.Machine.execWrOutData d s
  | .rdOutLevel => Sys2Proof.Machine.execRdOutLevel s
  | .wrOutLevel d => Sys2Proof.Machine.execWrOutLevel d s
  | .rdPixAddr => Sys2Proof.Machine.execRdPixAddr s
  | .wrPixAddr d => Sys2Proof.Machine.execWrPixAddr d s
  | .rdPixData => Sys2Proof.Machine.execRdPixData s
  | .wrPixData d => Sys2Proof.Machine.execWrPixData d s
  | .rdActCfg => Sys2Proof.Machine.execRdActCfg s
  | .wrActCfg d => Sys2Proof.Machine.execWrActCfg d s
  | .rdActDim => Sys2Proof.Machine.execRdActDim s
  | .wrActDim d => Sys2Proof.Machine.execWrActDim d s
  | .rdActKfi => Sys2Proof.Machine.execRdActKfi s
  | .wrActKfi d => Sys2Proof.Machine.execWrActKfi d s
  | .rdTiles => Sys2Proof.Machine.execRdTiles s
  | .wrTiles d => Sys2Proof.Machine.execWrTiles d s
  | .rdTileBytes => Sys2Proof.Machine.execRdTileBytes s
  | .wrTileBytes d => Sys2Proof.Machine.execWrTileBytes d s
  | .rdTileCount => Sys2Proof.Machine.execRdTileCount s
  | .wrTileCount d => Sys2Proof.Machine.execWrTileCount d s
  | .rdCanvasCap => Sys2Proof.Machine.execRdCanvasCap s
  | .wrCanvasCap d => Sys2Proof.Machine.execWrCanvasCap d s
  | .rdPrevCap => Sys2Proof.Machine.execRdPrevCap s
  | .wrPrevCap d => Sys2Proof.Machine.execWrPrevCap d s
  | .rdFifoDepth => Sys2Proof.Machine.execRdFifoDepth s
  | .wrFifoDepth d => Sys2Proof.Machine.execWrFifoDepth d s
  | .nop => Sys2Proof.Machine.execNop s
  | .init => Sys2Proof.Machine.execInit s
  | .encode => Sys2Proof.Machine.execEncode s

end Sys2Proof.Machine
end

