-- ==== Sys2Proof/Machine/Step.lean ====
section
/-! DEFINITION. The step: what the environment does next (20_memory.md R69), and the place where a host
transaction is put so that the next step runs it. -/

namespace Sys2Proof.Machine

/-- A host transaction, one atomic step (R68): the instruction its code decodes to, or an unmapped access
(30_encoding.md R81). -/
def hostTransaction (t : Txn) (s : State) : Host.Outcome State Fault Refusal :=
  match decodeTxn t with
  | .instr i => exec i s
  | .reject _ => .next (s.unmappedAccess t)

/-- One step. The next input says which agent acts (00_scope.md R11); with no input left only the engine can,
and if it cannot either, the block is idle and keeps all state (60_exceptions.md R287; log entry 9). -/
def step (s : State) : Host.Outcome State Fault Refusal :=
  match s.inputs with
  | [] => .next s.engineTurn
  | .host t :: rest => hostTransaction t { s with inputs := rest }
  | .engine :: rest => .next { s with inputs := rest }.engineTurn
  | .reset :: rest => .next { s with inputs := rest }.hardReset

/-- The host is about to issue `t`: it is the next input. -/
def State.withTransaction (s : State) (t : Txn) : State := { s with inputs := .host t :: s.inputs }

/-- The instruction of a word `w` of the opcode table is put where the next step takes it: as the next
transaction of the host. A command word is the data of a `CMD` write (30_encoding.md R89), whose meaning runs the
command. -/
def State.withFetchWord (s : State) (nbits w : Nat) : State :=
  if nbits ≤ 16 then s.withTransaction (Txn.ofCode (BitVec.ofNat 13 w) 0)
  else s.withTransaction (.write Reg.cmd.offset (BitVec.ofNat 32 w))

end Sys2Proof.Machine
end

