-- ==== Sys2Proof/WellFormed.lean ====
section
/-! DEFINITION. The checks on terms that a type of fixed width does not make: the lines of a host program, whose
literals are numbers, and the implementation parameters with the bounds of 00_scope.md R5. -/

namespace Sys2Proof

/-- Every instruction is well formed: its one operand is a data word, 32 bits by its type (30_encoding.md R80),
and every 32-bit word is a legal operand of every write (R257; an illegal value of a field is an error of the
instruction that uses it, not an ill-formed term). -/
def Instr.wf (_ : Instr) : Bool := true

/-- A raw offset names a byte of the window: 12 bits (R80). -/
def offsetFits (off : Nat) : Bool := off < 2 ^ 12

/-- A literal is a 32-bit one (R97). -/
def immFits (imm : Nat) : Bool := imm < 2 ^ 32

/-- A colour channel is 8 bits wide (R92). -/
def channelFits (c : Nat) : Bool := c < 2 ^ 8

/-- A line of a host program can be encoded (R97, R98). -/
def HostLine.wf : HostLine → Bool
  | .rd _ => true
  | .wr _ imm => immFits imm
  | .rdRaw off => offsetFits off
  | .wrRaw off imm => offsetFits off && immFits imm
  | .cmd _ => true
  | .pix v => immFits v
  | .rgb r g b => channelFits r && channelFits g && channelFits b
  | .clrDone => true
  | .clrErr => true
  | .pop => true

/-- The bounds of the implementation parameters (00_scope.md R5); the upper bound `2^32 - 1` is their type's. -/
def parametersWf (canvasCap prevCap fifoDepth : Word) : Bool :=
  64 ≤ canvasCap.toNat && 128 ≤ prevCap.toNat && 1 ≤ fifoDepth.toNat

end Sys2Proof
end

