-- ==== Sys2Proof/Machine/HostProgram.lean ====
section
/-! DEFINITION. Host programs (30_encoding.md R97, R98): the transactions that the lines of a program stand for,
and how a program comes before the block. A program is no part of the block (log entry 6). -/

namespace Sys2Proof.Machine

/-- The transaction that a line stands for (R97, R98). -/
def lineTxn : HostLine → Txn
  | .rd r => .read r.offset
  | .wr r imm => .write r.offset (BitVec.ofNat 32 imm)
  | .rdRaw off => .read (BitVec.ofNat 12 off)
  | .wrRaw off imm => .write (BitVec.ofNat 12 off) (BitVec.ofNat 32 imm)
  | .cmd .nop => .write Reg.cmd.offset 0x00000000
  | .cmd .init => .write Reg.cmd.offset 0x00000001
  | .cmd .encode => .write Reg.cmd.offset 0x00000002
  | .pix v => .write Reg.pixData.offset (BitVec.ofNat 32 v)
  | .rgb r g b => .write Reg.pixData.offset (BitVec.ofNat 32 (r * 65536 + g * 256 + b))
  | .clrDone => .write Reg.status.offset 0x00000004
  | .clrErr => .write Reg.status.offset 0x00000008
  | .pop => .read Reg.outData.offset

/-- A program is issued: its transactions come after the inputs already there, in order. The turns of the engine
between them are the environment's to place (20_memory.md R69). -/
def State.issueProgram (s : State) (program : List HostLine) : State :=
  { s with inputs := s.inputs ++ program.map fun l => .host (lineTxn l) }

/-- `wait_idle` (R98), as the host's decision after each read: `rd STATUS` until bit 0 reads 0; before a repeat
`rd OUT_LEVEL`, and one `pop` if that is not 0 (log entry 7). `last` is the last read since the wait began, and
none means that the wait is over. -/
def waitIdleNext (last : Option BusRead) : Option Txn :=
  match last with
  | none => some (.read Reg.status.offset)
  | some r =>
    if r.off = Reg.status.offset then
      if r.value.getLsbD 0 then some (.read Reg.outLevel.offset) else none
    else if r.off = Reg.outLevel.offset then
      if r.value = 0 then some (.read Reg.status.offset) else some (.read Reg.outData.offset)
    else some (.read Reg.status.offset)

end Sys2Proof.Machine
end

