-- ==== Sys2Proof/Machine/Oracle.lean ====
section
/-! DEFINITION. The spec's test oracles, which are no part of the block: unpacking a tile buffer
(41_tile_packer.md R149) and decoding a frame record (43_skip_rle.md R188). Statements about the packer and the
encoder are made against them. -/

namespace Sys2Proof.Machine

/-- Sample `p` recovered from an indexed tile buffer at `n` bits per pixel (R149): bit `n - 1 - j` of it is bit
`7 - ((p*n + j) mod 8)` of byte `(p*n + j) div 8`. -/
def unpackIndexed (n : Nat) (buf : List Byte) (p : Nat) : Sample :=
  ((List.range n).map fun j =>
    BitVec.setWidth 9 (BitVec.ofBool ((buf.getD ((p * n + j) / 8) 0).getLsbD (7 - (p * n + j) % 8))) <<< (n - 1 - j)).foldl
    (· ||| ·) 0

/-- Sample `p` recovered from a tile buffer in a mode (R149). -/
def Mode.unpack : Mode → List Byte → Nat → Sample
  | .idx1, buf, p => unpackIndexed 1 buf p
  | .idx2, buf, p => unpackIndexed 2 buf p
  | .idx4, buf, p => unpackIndexed 4 buf p
  | .idx8, buf, p => unpackIndexed 8 buf p
  | .rgb332, buf, p => (buf.getD p 0).setWidth 9
  | .rgb333, buf, p => BitVec.ofBool ((buf.getD (2 * p + 1) 0).getLsbD 0) ++ buf.getD (2 * p) 0

/-- The number of low sample bits a mode's packer keeps, its `BPP` (R142, R145, R146). -/
def Mode.depth : Mode → Nat
  | .idx1 => 1
  | .idx2 => 2
  | .idx4 => 4
  | .idx8 => 8
  | .rgb332 => 8
  | .rgb333 => 9

/-- Reading one gap: 255 adds 255 and goes on, any other byte ends the gap (R188). -/
def readGap : List Byte → Option (Nat × List Byte)
  | [] => none
  | b :: rest =>
    if b = 255 then (readGap rest).map fun r => (255 + r.1, r.2) else some (b.toNat, rest)

/-- Reading `tileBytes` bytes of tile data; none if fewer are left. -/
def readTile (tileBytes : Nat) (b : List Byte) : Option (List Byte × List Byte) :=
  if tileBytes ≤ b.length then some (b.take tileBytes, b.drop tileBytes) else none

/-- The `N` updates of a skip-RLE body, from tile index `next` on, and the bytes after them (R188). -/
def readUpdates (tileBytes : Nat) : Nat → Nat → List Byte → Option (List (Nat × List Byte) × List Byte)
  | 0, _, b => some ([], b)
  | n + 1, next, b =>
    match readGap b with
    | none => none
    | some (gap, b) =>
      match readTile tileBytes b with
      | none => none
      | some (data, b) =>
        (readUpdates tileBytes n (next + gap + 1) b).map fun r => ((next + gap, data) :: r.1, r.2)

/-- A decoded skip-RLE record: the flags byte, the updates, and the bytes after the record. -/
structure DecodedRecord where
  flags : Byte
  updates : List (Nat × List Byte)
  rest : List Byte
deriving DecidableEq, Repr

/-- Decoding a skip-RLE record (R188). -/
def decodeSkipRecord (tileBytes : Nat) : List Byte → Option DecodedRecord
  | flags :: lo :: hi :: body =>
    (readUpdates tileBytes (lo.toNat + hi.toNat * 256) 0 body).map fun r => ⟨flags, r.1, r.2⟩
  | _ => none

/-- The `N` pairs of a flat record: a little-endian 16-bit index and `tileBytes` bytes (R188). -/
def readPairs (tileBytes : Nat) : Nat → List Byte → Option (List (Nat × List Byte) × List Byte)
  | 0, b => some ([], b)
  | n + 1, lo :: hi :: b =>
    match readTile tileBytes b with
    | none => none
    | some (data, b) => (readPairs tileBytes n b).map fun r => ((lo.toNat + hi.toNat * 256, data) :: r.1, r.2)
  | _ + 1, _ => none

/-- Decoding a flat record (R188): the updates and the bytes after the record. -/
def decodeFlatRecord (tileBytes : Nat) : List Byte → Option (List (Nat × List Byte) × List Byte)
  | lo :: hi :: body => readPairs tileBytes (lo.toNat + hi.toNat * 256) body
  | _ => none

end Sys2Proof.Machine
end

