-- ==== Sys2Proof/Safety.lean ====
section
/-! DEFINITION. The terms in which statements are made: the invariant that every step keeps, the stream of output
bytes, which input the next step takes, and runs. -/

namespace Sys2Proof.Machine

/-- What is true of the block in every state that a run from reset can reach. Each field names the rule of the
spec that it comes from. -/
structure Inv (s : State) : Prop where
  /-- The parameters are within their bounds (00_scope.md R5). -/
  params : parametersWf s.canvasCap s.prevCap s.fifoDepth = true
  /-- `len(OFIFO) <= OFIFO_DEPTH` (10_state.md R37). -/
  fifoBound : s.ofifo.length ≤ s.fifoDepth.toNat
  /-- The canvas memory is in canonical form. -/
  canvasForm : s.canvas.wf
  /-- Every sample written is one of the `CANVAS_CAP` physical ones (R39). -/
  canvasBound : s.canvas.below s.canvasCap.toNat
  /-- The previous-tile memory is in canonical form. -/
  prevForm : s.prev.wf
  /-- Every previous-tile byte written is one of the `PREV_CAP` physical ones (R41). -/
  prevBound : s.prev.below s.prevCap.toNat
  /-- The active configuration of a valid session passes every check of INIT (R25, 44_commands.md R214). -/
  active : s.cfgValid = true → cfgCheck s.actCfg s.actDim s.canvasCap s.prevCap = .eNone
  /-- `Prev` is valid only in a session (R31, R213). -/
  session : s.prevValid = true → s.cfgValid = true
  /-- A valid `Prev` holds every byte of every tile (R31, R41). -/
  retained : s.prevValid = true → ∀ a < s.prevExtent, (s.prev.read a).isSome = true
  /-- Before a session's first frame the session registers have the values INIT and reset give them, and no
  record is in progress (R30 to R34, R38). -/
  fresh : s.prevValid = false →
    s.frameIdx = 0 ∧ s.lastKey = false ∧ s.updCount = 0 ∧ s.recLen = 0 ∧ s.done = false ∧ s.pending = []
  /-- `DONE = 1` only when the last record is complete (R28, 70_reset_and_hazards.md R313). -/
  doneIdle : s.done = true → s.pending = []
  /-- With `ERR = 0` nothing is captured (60_exceptions.md R277, R279). -/
  noError : s.err = false → s.errMulti = false ∧ s.errCode = .eNone
  /-- With `ERR = 1` a code is captured (R276). -/
  errorCode : s.err = true → s.errCode ≠ .eNone
  /-- What is still to push is the end of the last record (R34, R38). -/
  pendingBound : s.pending.length ≤ s.recLen.toNat
  /-- `N <= TILE_COUNT` (42_tile_diff.md R165). -/
  countBound : s.prevValid = true → s.updCount.toNat ≤ s.tileCount
  /-- The longest record has 8,519,552 bytes (R34). -/
  lengthBound : s.recLen.toNat ≤ 8519552

/-- The transaction code of an instruction of format `BUS` (30_encoding.md R80); a command word has none. -/
def busCode (i : Instr) : Option TxnCode :=
  match encode i with
  | .bus t => some t.code
  | .cmd _ => none

/-! ### The output stream (20_memory.md R70) -/

/-- The byte that a read brought to the host from the output FIFO, if it brought one: a read of `OUT_DATA` with
VALID set (R219). -/
def poppedByte (r : BusRead) : Option Byte :=
  if r.off = Reg.outData.offset ∧ r.value.getLsbD 8 = true then some (r.value.extractLsb' 0 8) else none

/-- The bytes the host has popped, in order. -/
def State.popped (s : State) : List Byte := s.reads.filterMap poppedByte

/-- Every byte on its way from the encoder to the host, oldest first. -/
def State.stream (s : State) : List Byte := s.popped ++ s.ofifo ++ s.pending

/-! ### What the next step does -/

/-- The next input is the host transaction `t`. -/
def State.nextIs (s : State) (t : Txn) : Prop := ∃ rest, s.inputs = .host t :: rest

/-- The next input is hardware reset. -/
def State.nextIsReset (s : State) : Prop := ∃ rest, s.inputs = .reset :: rest

/-- The next step accepts an ENCODE (44_commands.md R215). -/
def State.acceptsEncode (s : State) : Prop :=
  s.nextIs (.write Reg.cmd.offset 2) ∧ s.busy = false ∧ s.cfgValid = true

/-- The next step carries out an INIT (R213): one that is not refused, whether or not its check passes. -/
def State.runsInit (s : State) : Prop := s.nextIs (.write Reg.cmd.offset 1) ∧ s.busy = false

/-- The next step discards output: an INIT or hardware reset (R213, 70_reset_and_hazards.md R300). -/
def State.discardsOutput (s : State) : Prop := s.runsInit ∨ s.nextIsReset

/-- The next step accepts a pixel (40_quantizer.md R120), whatever its data word. -/
def State.acceptsPixel (s : State) : Prop :=
  (∃ d, s.nextIs (.write Reg.pixData.offset d)) ∧ s.busy = false ∧ s.cfgValid = true ∧ s.pixAddr.toNat < s.npix

/-! ### Runs -/

/-- The state after one step; the same state where there is none (which does not happen: R270). -/
def State.after (s : State) : State :=
  match step s with
  | .next t => t
  | .fault _ => s
  | .refused _ => s

/-- The state after `k` steps. -/
def State.afterSteps : Nat → State → State
  | 0, s => s
  | k + 1, s => afterSteps k s.after

/-- The record that the next step puts on its way: that of the ENCODE it accepts, if it accepts one. The
transaction is recognised by its code and its word. -/
def State.emitted (s : State) : List Byte :=
  match s.inputs with
  | .host t :: _ =>
    if t = .write Reg.cmd.offset 2 ∧ s.busy = false ∧ s.cfgValid = true then s.record else []
  | _ => []

/-- The records of the ENCODEs accepted in `k` steps, in order. -/
def State.emittedIn : Nat → State → List Byte
  | 0, _ => []
  | k + 1, s => s.emitted ++ emittedIn k s.after

/-! ### Unobservable state -/

/-- The state without `Prev`, which is never host-visible (10_state.md R41, R42). -/
def State.forgetPrev (s : State) : State := { s with prev := [], prevEpoch := 0 }

/-- Two states that a host cannot tell apart now or later: they differ at most in `Prev`, and where it is valid
its bytes in use agree (R42). -/
def State.alike (s t : State) : Prop :=
  s.forgetPrev = t.forgetPrev ∧ (s.prevValid = true → ∀ a < s.prevExtent, s.prevByte a = t.prevByte a)

/-- The block's own state is the same; only the environment's side (its inputs, what the host has read, the count
of draws) may differ. -/
def State.sameBlock (s t : State) : Prop :=
  { s with inputs := [], reads := [], readDraws := 0 } = { t with inputs := [], reads := [], readDraws := 0 }

end Sys2Proof.Machine
end

