-- ==== Sys2Proof/Certificates/Slice0/Obligations.lean ====
section
/-! DEFINITION. The statements for the provers. Each one's docstring names the rules of the spec it is about. -/

open Sys2Proof Sys2Proof.Machine Host.Outcome

/-! ### Encoding -/

/-- R80 to R82, R89 to R91, R99: an item decodes to an instruction exactly if it is that instruction's encoding:
every instruction, with every data word, is read back from its own encoding, and no bit of a transaction or of a
command word is dropped. -/
def Obligations.DecodeAndEncodeAgree : Prop :=
  ∀ (e : Encoded) (i : Instr), i.wf = true → (decode e = .instr i ↔ encode i = e)

/-- R81, R82, R84: decoding is total and unambiguous. At most one row matches a transaction code; exactly the
aligned offsets from 0x000 to 0x058 are mapped, for reads and for writes; any other offset is rejected under its
name. -/
def Obligations.TransactionDecodingIsTotalAndUnambiguous : Prop :=
  (∀ (tc : TxnCode), ∀ r1 ∈ busRows, ∀ r2 ∈ busRows,
    r1.matchesCode tc = true → r2.matchesCode tc = true → r1 = r2) ∧
  ∀ t : Txn,
    ((∃ i, decodeTxn t = .instr i) ↔ t.off.toNat % 4 = 0 ∧ t.off.toNat ≤ 0x058) ∧
    (t.off.toNat % 4 ≠ 0 → decodeTxn t = .reject .misalignedOffset) ∧
    (t.off.toNat % 4 = 0 → 0x05C ≤ t.off.toNat → decodeTxn t = .reject .unmappedOffset)

/-- R82, R90: words written out from the tables decode to the instructions they stand for. The transaction code does
not carry the data word (R80); that a write's word is read with the data word 0 is the MODEL's choice (log entry 12,
DESIGN CHOICE). -/
def Obligations.WordsOfTheTablesDecode : Prop :=
  decodeTableWord 16 0x0000 = some .rdId ∧
  decodeTableWord 16 0x0034 = some .rdPixData ∧
  decodeTableWord 16 0x1010 = some (.wrCmd 0) ∧
  decodeTableWord 16 0x1058 = some (.wrFifoDepth 0) ∧
  decodeTableWord 16 0x005C = none ∧
  decodeTableWord 16 0x0006 = none ∧
  decodeTableWord 32 0x00000000 = some .nop ∧
  decodeTableWord 32 0x00000001 = some .init ∧
  decodeTableWord 32 0x00000002 = some .encode ∧
  decodeTableWord 32 0x00000103 = none

/-! ### The step -/

/-- R69, R81: a host transaction whose code decodes to an instruction runs that instruction, on the state without
the transaction. -/
def Obligations.StepRunsTheDecodedInstruction : Prop :=
  ∀ (s : State) (t : Txn) (rest : List Event) (i : Instr),
    s.inputs = .host t :: rest → decodeTxn t = .instr i → i.wf = true →
    step s = exec i { s with inputs := rest }

/-- R256, R65: an unmapped or misaligned access, in every state, raises `E_BAD_ADDR` and changes nothing else; a
read of it returns 0. -/
def Obligations.UnmappedAccessRaisesBadAddr : Prop :=
  ∀ (s : State) (t : Txn) (rest : List Event),
    s.inputs = .host t :: rest → (t.off.toNat % 4 ≠ 0 ∨ 0x05C ≤ t.off.toNat) →
    step s = next
      { s with
        inputs := rest
        err := true
        errMulti := s.errMulti || s.err
        errCode := if s.err then s.errCode else .eBadAddr
        reads := match t with
          | .read off => s.reads ++ [⟨off, 0⟩]
          | .write _ _ => s.reads }

/-- R270: "The block never traps and never stops the host": every step, and every instruction in every state, has
a next state. -/
def Obligations.EveryStepHasANextState : Prop :=
  (∀ s : State, ∃ t, step s = next t) ∧ ∀ (i : Instr) (s : State), ∃ t, exec i s = next t

/-! ### Reset -/

/-- R43: the reset value of every register and queue, and the interrupt output; the canvas holds its
`CANVAS_INIT` draw (R40). -/
def Obligations.ResetValuesOfEveryRegister : Prop :=
  State.reset.cfg.toWord = 0 ∧ State.reset.dim.toWord = 0 ∧ kfiToWord State.reset.kfi = 0 ∧
  State.reset.actCfg.toWord = 0 ∧ State.reset.actDim.toWord = 0 ∧ kfiToWord State.reset.actKfi = 0 ∧
  State.reset.cfgValid = false ∧ State.reset.done = false ∧ State.reset.err = false ∧
  State.reset.errMulti = false ∧ State.reset.errCode.toBits = 0x00 ∧ State.reset.lastKey = false ∧
  State.reset.prevValid = false ∧ State.reset.busy = false ∧ State.reset.irqEn.toWord = 0 ∧
  State.reset.frameIdx = 0 ∧ State.reset.updCount = 0 ∧ State.reset.recLen = 0 ∧ State.reset.pixAddr = 0 ∧
  State.reset.ofifo = [] ∧ State.reset.pending = [] ∧ State.reset.irq = false ∧
  ∀ i, State.reset.canvasAt i = Config.canvasInit State.reset.canvasEpoch i

/-- R300, R40, R43: hardware reset, possible in every state, gives every state element its reset value, discards a
record in progress and the unread bytes, draws the canvas anew, and keeps the parameters. That it also keeps the
environment's side, the inputs still to come (`t.inputs = rest`) and what the host has read (`t.reads = s.reads`), is
the MODEL's (log entry 13, DEDUCED), and so is that each reset has a draw of its own (log entry 3, DESIGN CHOICE). -/
def Obligations.HardwareResetFromAnyState : Prop :=
  ∀ (s : State) (rest : List Event), s.inputs = .reset :: rest →
    ∃ t, step s = next t ∧
      t.cfg = State.reset.cfg ∧ t.dim = State.reset.dim ∧ t.kfi = State.reset.kfi ∧
      t.actCfg = State.reset.actCfg ∧ t.actDim = State.reset.actDim ∧ t.actKfi = State.reset.actKfi ∧
      t.cfgValid = false ∧ t.done = false ∧ t.err = false ∧ t.errMulti = false ∧ t.errCode = .eNone ∧
      t.lastKey = false ∧ t.prevValid = false ∧ t.busy = false ∧ t.irqEn = State.reset.irqEn ∧ t.irq = false ∧
      t.frameIdx = 0 ∧ t.updCount = 0 ∧ t.recLen = 0 ∧ t.pixAddr = 0 ∧ t.ofifo = [] ∧ t.pending = [] ∧
      (∀ i, t.canvasAt i = Config.canvasInit (s.canvasEpoch + 1) i) ∧
      t.canvasCap = s.canvasCap ∧ t.prevCap = s.prevCap ∧ t.fifoDepth = s.fifoDepth ∧
      t.inputs = rest ∧ t.reads = s.reads

/-! ### The invariant -/

/-- The state after reset meets the invariant. -/
def Obligations.InvariantHoldsAtReset : Prop := Inv State.reset

/-- Every step, of the host, of the engine, or hardware reset, keeps the invariant. -/
def Obligations.EveryStepKeepsTheInvariant : Prop :=
  ∀ s t : State, Inv s → step s = next t → Inv t

/-! ### Register access -/

/-- R240, R254: the identification and the capability registers. -/
def Obligations.IdentificationAndCapabilityReads : Prop :=
  ∀ s : State,
    exec .rdId s = next { s with reads := s.reads ++ [⟨0x000, 0x46324801⟩] } ∧
    exec .rdCanvasCap s = next { s with reads := s.reads ++ [⟨0x050, s.canvasCap⟩] } ∧
    exec .rdPrevCap s = next { s with reads := s.reads ++ [⟨0x054, s.prevCap⟩] } ∧
    exec .rdFifoDepth s = next { s with reads := s.reads ++ [⟨0x058, s.fifoDepth⟩] } ∧
    busCode .rdId = some 0x0000 ∧ busCode .rdCanvasCap = some 0x0050 ∧ busCode .rdPrevCap = some 0x0054 ∧
    busCode .rdFifoDepth = some 0x0058

/-- R241, R242, R243: the staged configuration registers, read and written in every state, with no error; nothing
else changes, the active configuration included. A `CFG` that holds an illegal pair is reported by INIT. -/
def Obligations.StagedConfigurationRegisters : Prop :=
  ∀ (s : State) (d : Word),
    exec .rdCfg s = next { s with
      reads := s.reads ++
        [⟨0x004, BitVec.ofNat 32 (s.cfg.bpp.toNat + 16 * s.cfg.direct.toNat + 32 * s.cfg.recfmt.toNat)⟩] } ∧
    exec (.wrCfg d) s = next { s with cfg := ⟨BitVec.ofNat 4 d.toNat, d.getLsbD 4, d.getLsbD 5⟩ } ∧
    (s.pending = [] → s.err = false →
      ¬ ((s.cfg.direct = false ∧ s.cfg.bpp.toNat ∈ [1, 2, 4, 8]) ∨ (s.cfg.direct = true ∧ s.cfg.bpp.toNat ∈ [8, 9])) →
      ∃ t, exec .init s = next t ∧ t.cfgValid = false ∧ t.err = true ∧ t.errCode = .eCfgBpp) ∧
    exec .rdDim s = next { s with
      reads := s.reads ++ [⟨0x008, BitVec.ofNat 32 (s.dim.width.toNat + 65536 * s.dim.height.toNat)⟩] } ∧
    exec (.wrDim d) s = next { s with
      dim := ⟨BitVec.ofNat 16 d.toNat, BitVec.ofNat 16 (d.toNat / 65536)⟩ } ∧
    exec .rdKfi s = next { s with reads := s.reads ++ [⟨0x00C, BitVec.ofNat 32 s.kfi.toNat⟩] } ∧
    exec (.wrKfi d) s = next { s with kfi := BitVec.ofNat 16 d.toNat } ∧
    busCode .rdCfg = some 0x0004 ∧ busCode (.wrCfg d) = some 0x1004 ∧
    busCode .rdDim = some 0x0008 ∧ busCode (.wrDim d) = some 0x1008 ∧
    busCode .rdKfi = some 0x000C ∧ busCode (.wrKfi d) = some 0x100C

/-- R257, R241 to R243, R246, R126: a register that is written and then read gives back the bits its fields name,
and reads 0 in the reserved ones. -/
def Obligations.WriteThenReadKeepsNamedBits : Prop :=
  ∀ (s s1 s2 : State) (d : Word),
    (exec (.wrCfg d) s = next s1 → exec .rdCfg s1 = next s2 →
      s2.reads = s.reads ++ [⟨0x004, d &&& 0x0000003F⟩]) ∧
    (exec (.wrDim d) s = next s1 → exec .rdDim s1 = next s2 → s2.reads = s.reads ++ [⟨0x008, d⟩]) ∧
    (exec (.wrKfi d) s = next s1 → exec .rdKfi s1 = next s2 →
      s2.reads = s.reads ++ [⟨0x00C, d &&& 0x0000FFFF⟩]) ∧
    (exec (.wrIrqEn d) s = next s1 → exec .rdIrqEn s1 = next s2 →
      s2.reads = s.reads ++ [⟨0x018, d &&& 0x00000003⟩]) ∧
    (exec (.wrPixAddr d) s = next s1 → exec .rdPixAddr s1 = next s2 → s2.reads = s.reads ++ [⟨0x030, d⟩])

/-- R244, R28, R217, R271: a read of `STATUS` returns each flag in its bit; while `BUSY = 1` bits 5 and 4 are a fresh
draw each, and it uses up one draw. Reserved bits read 0, and nothing is cleared. The values of the error codes.
The counter of draws is the MODEL's (log entry 5). -/
def Obligations.StatusReadGivesEachFlagInItsBit : Prop :=
  ∀ s : State, ∃ v : Word,
    exec .rdStatus s = next { s with
      readDraws := if s.pending = [] then s.readDraws else s.readDraws + 1
      reads := s.reads ++ [⟨0x014, v⟩] } ∧
    v.getLsbD 0 = decide (s.pending ≠ []) ∧ v.getLsbD 1 = s.cfgValid ∧ v.getLsbD 2 = s.done ∧ v.getLsbD 3 = s.err ∧
    v.getLsbD 6 = s.errMulti ∧ v.getLsbD 7 = false ∧ v.extractLsb' 8 8 = s.errCode.toBits ∧
    v.extractLsb' 16 16 = 0 ∧
    (s.pending = [] → v.getLsbD 4 = s.lastKey ∧ v.getLsbD 5 = s.prevValid) ∧
    (s.pending ≠ [] → v.getLsbD 4 = Config.busyLastKey s.readDraws ∧ v.getLsbD 5 = Config.busyPrevValid s.readDraws) ∧
    busCode .rdStatus = some 0x0014 ∧
    ErrCode.eNone.toBits = 0x00 ∧ ErrCode.eCfgBpp.toBits = 0x01 ∧ ErrCode.eCfgDim.toBits = 0x02 ∧
    ErrCode.eCfgTiles.toBits = 0x03 ∧ ErrCode.eCfgCap.toBits = 0x04 ∧ ErrCode.eNotCfg.toBits = 0x05 ∧
    ErrCode.eBusy.toBits = 0x06 ∧ ErrCode.ePixRange.toBits = 0x07 ∧ ErrCode.eBadCmd.toBits = 0x08 ∧
    ErrCode.eBadAddr.toBits = 0x09

/-- R247, R248, R249, R217: the session registers read their values while the block is idle and a fresh draw of
the field's width while it is busy; reading changes nothing else. The counter of draws is the MODEL's (log entry 5). -/
def Obligations.SessionRegisterReads : Prop :=
  ∀ s : State,
    (s.pending = [] →
      exec .rdFrameIdx s = next { s with reads := s.reads ++ [⟨0x01C, s.frameIdx⟩] } ∧
      exec .rdUpdCount s = next { s with reads := s.reads ++ [⟨0x020, BitVec.ofNat 32 s.updCount.toNat⟩] } ∧
      exec .rdRecLen s = next { s with reads := s.reads ++ [⟨0x024, s.recLen⟩] }) ∧
    (s.pending ≠ [] →
      exec .rdFrameIdx s = next { s with
        readDraws := s.readDraws + 1, reads := s.reads ++ [⟨0x01C, Config.busyFrameIdx s.readDraws⟩] } ∧
      exec .rdUpdCount s = next { s with
        readDraws := s.readDraws + 1
        reads := s.reads ++ [⟨0x020, BitVec.ofNat 32 (Config.busyUpdCount s.readDraws).toNat⟩] } ∧
      exec .rdRecLen s = next { s with
        readDraws := s.readDraws + 1, reads := s.reads ++ [⟨0x024, Config.busyRecLen s.readDraws⟩] }) ∧
    busCode .rdFrameIdx = some 0x001C ∧ busCode .rdUpdCount = some 0x0020 ∧ busCode .rdRecLen = some 0x0024

/-- R250 to R253, R26: the active configuration and the geometry computed from it. -/
def Obligations.ActiveConfigurationAndGeometryReads : Prop :=
  ∀ s : State,
    exec .rdActCfg s = next { s with
      reads := s.reads ++
        [⟨0x038, BitVec.ofNat 32 (s.actCfg.bpp.toNat + 16 * s.actCfg.direct.toNat + 32 * s.actCfg.recfmt.toNat)⟩] } ∧
    exec .rdActDim s = next { s with
      reads := s.reads ++ [⟨0x03C, BitVec.ofNat 32 (s.actDim.width.toNat + 65536 * s.actDim.height.toNat)⟩] } ∧
    exec .rdActKfi s = next { s with reads := s.reads ++ [⟨0x040, BitVec.ofNat 32 s.actKfi.toNat⟩] } ∧
    exec .rdTiles s = next { s with
      reads := s.reads ++
        [⟨0x044, BitVec.ofNat 32 (s.actDim.width.toNat / 8 + 65536 * (s.actDim.height.toNat / 8))⟩] } ∧
    exec .rdTileBytes s = next { s with
      reads := s.reads ++ [⟨0x048,
        if s.actCfg.direct = false ∧ s.actCfg.bpp.toNat ∈ [1, 2, 4, 8] then BitVec.ofNat 32 (8 * s.actCfg.bpp.toNat)
        else if s.actCfg.direct = true ∧ s.actCfg.bpp.toNat = 8 then 64
        else if s.actCfg.direct = true ∧ s.actCfg.bpp.toNat = 9 then 128
        else 0⟩] } ∧
    s.tileBytes =
      (if s.actCfg.direct = false ∧ s.actCfg.bpp.toNat ∈ [1, 2, 4, 8] then 8 * s.actCfg.bpp.toNat
        else if s.actCfg.direct = true ∧ s.actCfg.bpp.toNat = 8 then 64
        else if s.actCfg.direct = true ∧ s.actCfg.bpp.toNat = 9 then 128
        else 0) ∧
    exec .rdTileCount s = next { s with
      reads := s.reads ++
        [⟨0x04C, BitVec.ofNat 32 ((s.actDim.width.toNat / 8) * (s.actDim.height.toNat / 8))⟩] } ∧
    s.tileCount = (s.actDim.width.toNat / 8) * (s.actDim.height.toNat / 8) ∧
    s.npix = s.actDim.width.toNat * s.actDim.height.toNat ∧
    (s.actDim.width.toNat / 8) * (s.actDim.height.toNat / 8) < 2 ^ 32 ∧
    busCode .rdActCfg = some 0x0038 ∧ busCode .rdActDim = some 0x003C ∧ busCode .rdActKfi = some 0x0040 ∧
    busCode .rdTiles = some 0x0044 ∧ busCode .rdTileBytes = some 0x0048 ∧ busCode .rdTileCount = some 0x004C

/-- R245: a write of `STATUS` clears exactly the W1C bits written as 1, `ERR` together with `ERR_MULTI` and
`ERR_CODE`; every other bit of the word is ignored and nothing else changes. -/
def Obligations.StatusWriteClearsTheBitsWrittenAsOne : Prop :=
  ∀ (s : State) (d : Word),
    exec (.wrStatus d) s = next
      { s with
        done := s.done && !d.getLsbD 2
        err := s.err && !d.getLsbD 3
        errMulti := s.errMulti && !d.getLsbD 3
        errCode := if d.getLsbD 3 then .eNone else s.errCode } ∧
    busCode (.wrStatus d) = some 0x1014

/-- R246, R280: the interrupt enables, read and written in every state, and the interrupt output, which follows
the new value in the same step. -/
def Obligations.InterruptEnablesAndOutput : Prop :=
  ∀ (s : State) (d : Word),
    exec .rdIrqEn s = next { s with
      reads := s.reads ++ [⟨0x018, BitVec.ofNat 32 (s.irqEn.doneIe.toNat + 2 * s.irqEn.errIe.toNat)⟩] } ∧
    ∃ t, exec (.wrIrqEn d) s = next t ∧ t = { s with irqEn := ⟨d.getLsbD 0, d.getLsbD 1⟩ } ∧
      (t.irq = true ↔ (s.done = true ∧ d.getLsbD 0 = true) ∨ (s.err = true ∧ d.getLsbD 1 = true)) ∧
      busCode .rdIrqEn = some 0x0018 ∧ busCode (.wrIrqEn d) = some 0x1018

/-- R281: an enabled source stays pending, and `irq` stays asserted. For `DONE`, until reset, a write of `STATUS`
with bit 2 set, a write of `IRQ_EN` with bit 0 clear, an INIT that is carried out, or an accepted ENCODE; for `ERR`,
until reset, a write of `STATUS` with bit 3 set, or a write of `IRQ_EN` with bit 1 clear. -/
def Obligations.InterruptStaysAssertedUntilCleared : Prop :=
  ∀ s t : State, step s = next t → ¬ s.nextIsReset →
    (s.done = true → s.irqEn.doneIe = true →
      (∀ d : Word, s.nextIs (.write 0x014 d) → d.getLsbD 2 = false) →
      (∀ d : Word, s.nextIs (.write 0x018 d) → d.getLsbD 0 = true) →
      ¬ s.runsInit → ¬ s.acceptsEncode →
      t.done = true ∧ t.irqEn.doneIe = true ∧ t.irq = true) ∧
    (s.err = true → s.irqEn.errIe = true →
      (∀ d : Word, s.nextIs (.write 0x014 d) → d.getLsbD 3 = false) →
      (∀ d : Word, s.nextIs (.write 0x018 d) → d.getLsbD 1 = true) →
      t.err = true ∧ t.irqEn.errIe = true ∧ t.irq = true)

/-- R255: a write to any of the 15 read-only registers changes nothing and raises no error, in every state. -/
def Obligations.WritesOfReadOnlyRegistersAreIgnored : Prop :=
  ∀ (s : State) (d : Word),
    exec (.wrId d) s = next s ∧ exec (.wrFrameIdx d) s = next s ∧ exec (.wrUpdCount d) s = next s ∧
    exec (.wrRecLen d) s = next s ∧ exec (.wrOutData d) s = next s ∧ exec (.wrOutLevel d) s = next s ∧
    exec (.wrActCfg d) s = next s ∧ exec (.wrActDim d) s = next s ∧ exec (.wrActKfi d) s = next s ∧
    exec (.wrTiles d) s = next s ∧ exec (.wrTileBytes d) s = next s ∧ exec (.wrTileCount d) s = next s ∧
    exec (.wrCanvasCap d) s = next s ∧ exec (.wrPrevCap d) s = next s ∧ exec (.wrFifoDepth d) s = next s ∧
    busCode (.wrId d) = some 0x1000 ∧ busCode (.wrFrameIdx d) = some 0x101C ∧ busCode (.wrUpdCount d) = some 0x1020 ∧
    busCode (.wrRecLen d) = some 0x1024 ∧ busCode (.wrOutData d) = some 0x1028 ∧
    busCode (.wrOutLevel d) = some 0x102C ∧ busCode (.wrActCfg d) = some 0x1038 ∧
    busCode (.wrActDim d) = some 0x103C ∧ busCode (.wrActKfi d) = some 0x1040 ∧ busCode (.wrTiles d) = some 0x1044 ∧
    busCode (.wrTileBytes d) = some 0x1048 ∧ busCode (.wrTileCount d) = some 0x104C ∧
    busCode (.wrCanvasCap d) = some 0x1050 ∧ busCode (.wrPrevCap d) = some 0x1054 ∧
    busCode (.wrFifoDepth d) = some 0x1058

/-- R67, R217: a read of any register but `OUT_DATA` leaves the block as it was, unless it is a read of `PIX_DATA`
that raises an error. Two such reads with nothing between them return equal values, in every state, but for what is
a draw while the block is busy: `FRAME_IDX`, `UPD_COUNT`, `REC_LEN` and bits 5 and 4 of `STATUS`. -/
def Obligations.ReadsWithoutSideEffect : Prop :=
  ∀ (r : Reg) (s t u : State), r ≠ .outData →
    exec r.readInstr s = next t → exec r.readInstr t = next u →
    ((r = .pixData → s.cfgValid = true ∧ s.pixAddr.toNat < s.actDim.width.toNat * s.actDim.height.toNat) →
      s.sameBlock t) ∧
    ∃ v v', t.reads = s.reads ++ [⟨r.offset, v⟩] ∧ u.reads = t.reads ++ [⟨r.offset, v'⟩] ∧
      (s.pending = [] ∨ r ∉ [Reg.status, Reg.frameIdx, Reg.updCount, Reg.recLen] → v = v') ∧
      (r = .status → v &&& 0xFFFFFFCF = v' &&& 0xFFFFFFCF)

/-- R36, R22 to R24, R29, R35, R67: the parameters are constants of every step, and a register that the host can
write changes only by a write of its own, by reset, and, for `PIX_ADDR`, by an accepted pixel. -/
def Obligations.RegistersChangeOnlyByTheirOwnWrites : Prop :=
  ∀ s t : State, step s = next t →
    t.canvasCap = s.canvasCap ∧ t.prevCap = s.prevCap ∧ t.fifoDepth = s.fifoDepth ∧
    (t.cfg ≠ s.cfg → s.nextIsReset ∨ ∃ d, s.nextIs (.write 0x004 d)) ∧
    (t.dim ≠ s.dim → s.nextIsReset ∨ ∃ d, s.nextIs (.write 0x008 d)) ∧
    (t.kfi ≠ s.kfi → s.nextIsReset ∨ ∃ d, s.nextIs (.write 0x00C d)) ∧
    (t.irqEn ≠ s.irqEn → s.nextIsReset ∨ ∃ d, s.nextIs (.write 0x018 d)) ∧
    (t.pixAddr ≠ s.pixAddr → s.nextIsReset ∨ (∃ d, s.nextIs (.write 0x030 d)) ∨ s.acceptsPixel)

/-! ### Errors -/

/-- R276, R278: raising an error captures the first code; a further error keeps it and sets `ERR_MULTI`. Nothing
else is saved or changed. -/
def Obligations.RaiseCapturesTheFirstError : Prop :=
  ∀ (s : State) (code : ErrCode),
    (s.err = false → s.raiseError code = { s with err := true, errCode := code }) ∧
    (s.err = true → s.raiseError code = { s with errMulti := true })

/-- R277, R279: `ERR` falls, and a captured code or `ERR_MULTI` is lost, only by a write of `STATUS` with bit 3 set
or by reset. -/
def Obligations.CaptureIsClearedOnlyByStatusWriteOrReset : Prop :=
  ∀ s t : State, step s = next t → s.err = true → ¬ s.nextIsReset →
    (∀ d : Word, s.nextIs (.write 0x014 d) → d.getLsbD 3 = false) →
    t.err = true ∧ t.errCode = s.errCode ∧ (s.errMulti = true → t.errMulti = true)

/-! ### The pixel port -/

/-- R120, R62, R39: an accepted pixel is quantized under the active mode and stored at the canvas index in
`PIX_ADDR`, every other sample stays, and `PIX_ADDR` counts up. -/
def Obligations.PixelWriteStoresOneSample : Prop :=
  ∀ (s : State) (d : Word), s.pending = [] → s.cfgValid = true →
    s.pixAddr.toNat < s.actDim.width.toNat * s.actDim.height.toNat →
    ∃ t, exec (.wrPixData d) s = next t ∧
      t = { s with canvas := t.canvas, pixAddr := s.pixAddr + 1 } ∧
      t.canvasAt s.pixAddr.toNat = s.actCfg.quantize d ∧
      (∀ j, j ≠ s.pixAddr.toNat → t.canvasAt j = s.canvasAt j) ∧
      busCode (.wrPixData d) = some 0x1034

/-- R120, R273: a `PIX_DATA` write is refused with the first error that applies, and stores nothing. -/
def Obligations.PixelWriteRefusals : Prop :=
  ∀ (s : State) (d : Word),
    (s.pending ≠ [] → exec (.wrPixData d) s = next (s.raiseError .eBusy)) ∧
    (s.pending = [] → s.cfgValid = false → exec (.wrPixData d) s = next (s.raiseError .eNotCfg)) ∧
    (s.pending = [] → s.cfgValid = true → s.actDim.width.toNat * s.actDim.height.toNat ≤ s.pixAddr.toNat →
      exec (.wrPixData d) s = next (s.raiseError .ePixRange))

/-- R125: reading back a sample, with its two errors, where it returns 0; `PIX_ADDR` stays, and `BUSY` does not
matter. -/
def Obligations.PixelReadReturnsTheSample : Prop :=
  ∀ s : State,
    (s.cfgValid = true → s.pixAddr.toNat < s.actDim.width.toNat * s.actDim.height.toNat →
      exec .rdPixData s = next { s with
        reads := s.reads ++ [⟨0x034, BitVec.ofNat 32 (s.canvasAt s.pixAddr.toNat).toNat⟩] }) ∧
    (s.cfgValid = true → s.actDim.width.toNat * s.actDim.height.toNat ≤ s.pixAddr.toNat →
      exec .rdPixData s = next { s.raiseError .ePixRange with reads := s.reads ++ [⟨0x034, 0⟩] }) ∧
    (s.cfgValid = false →
      exec .rdPixData s = next { s.raiseError .eNotCfg with reads := s.reads ++ [⟨0x034, 0⟩] }) ∧
    busCode .rdPixData = some 0x0034

/-- R126, R127: `PIX_ADDR` takes and gives any value in any state, and nothing else changes. -/
def Obligations.PixelAddressRegister : Prop :=
  ∀ (s : State) (d : Word),
    exec (.wrPixAddr d) s = next { s with pixAddr := d } ∧
    exec .rdPixAddr s = next { s with reads := s.reads ++ [⟨0x030, s.pixAddr⟩] } ∧
    busCode (.wrPixAddr d) = some 0x1030 ∧ busCode .rdPixAddr = some 0x0030

/-- R85, R93, R121 to R123: which mode each `(DIRECT, BPP)` pair selects, and the sample of every mode, bit by bit,
from the data word's fields. -/
def Obligations.QuantizerBitsOfEveryMode : Prop :=
  ∀ (c : CfgReg) (d : Word),
    (c.direct = false → c.bpp.toNat = 1 → c.mode = some .idx1) ∧
    (c.direct = false → c.bpp.toNat = 2 → c.mode = some .idx2) ∧
    (c.direct = false → c.bpp.toNat = 4 → c.mode = some .idx4) ∧
    (c.direct = false → c.bpp.toNat = 8 → c.mode = some .idx8) ∧
    (c.direct = true → c.bpp.toNat = 8 → c.mode = some .rgb332) ∧
    (c.direct = true → c.bpp.toNat = 9 → c.mode = some .rgb333) ∧
    (c.direct = false → c.bpp.toNat ∉ [1, 2, 4, 8] → c.mode = none) ∧
    (c.direct = true → c.bpp.toNat ∉ [8, 9] → c.mode = none) ∧
    (∀ m, c.mode = some m → c.quantize d = m.quantize d) ∧
    (c.direct = false → c.bpp.toNat ∈ [1, 2, 4, 8] →
      (c.quantize d).extractLsb' 0 8 = d.extractLsb' 0 8 ∧ (c.quantize d).getLsbD 8 = false) ∧
    (c.direct = true → c.bpp.toNat = 8 →
      (c.quantize d).extractLsb' 0 3 = d.extractLsb' 21 3 ∧ (c.quantize d).extractLsb' 3 3 = d.extractLsb' 13 3 ∧
      (c.quantize d).extractLsb' 6 2 = d.extractLsb' 6 2 ∧ (c.quantize d).getLsbD 8 = false) ∧
    (c.direct = true → c.bpp.toNat = 9 →
      (c.quantize d).extractLsb' 0 3 = d.extractLsb' 21 3 ∧ (c.quantize d).extractLsb' 3 3 = d.extractLsb' 13 3 ∧
      (c.quantize d).extractLsb' 6 3 = d.extractLsb' 5 3)

/-- R39: only an accepted `PIX_DATA` write writes the canvas, and only the sample that `PIX_ADDR` names; hardware
reset is the one other step after which a sample may differ. -/
def Obligations.CanvasIsWrittenOnlyThroughThePixelPort : Prop :=
  ∀ (s t : State) (i : Nat), step s = next t → ¬ s.nextIsReset → t.canvasAt i ≠ s.canvasAt i →
    s.acceptsPixel ∧ i = s.pixAddr.toNat

/-! ### The tile packer -/

/-- R62, R141: on a canvas of whole tiles, the 64 pixels of the tiles are the canvas, each index once. Pixel
`(x, y)` is pixel number `8 * (y mod 8) + x mod 8` of tile `(y div 8) * TILES_X + x div 8`, and every index a tile
reads is below `NPIX`. -/
def Obligations.TilePixelsAreTheCanvas : Prop :=
  ∀ d : DimReg, d.width.toNat % 8 = 0 →
    (∀ x y, x < d.width.toNat →
      d.tilePixel (y / 8 * d.tilesX + x / 8) (y % 8 * 8 + x % 8) = y * d.width.toNat + x) ∧
    (∀ t p, t < d.tileCount → p < 64 → d.tilePixel t p < d.npix) ∧
    (∀ t p t' p', t < d.tileCount → p < 64 → t' < d.tileCount → p' < 64 →
      d.tilePixel t p = d.tilePixel t' p' → t = t' ∧ p = p')

/-- R140, R147: a tile buffer has exactly `TILE_BYTES` bytes. -/
def Obligations.TileBufferLength : Prop :=
  ∀ (s : State) (t : Nat), (s.packTile t).length = s.tileBytes

/-- R142, R143: in an indexed mode of `n` bits, bit `n - 1 - j` of sample `p` is stream bit `p*n + j`, which is bit
`7 - (p*n + j) mod 8` of byte `(p*n + j) div 8` of the buffer. -/
def Obligations.IndexedPackingPlacesEachBit : Prop :=
  ∀ (n : Nat) (sample : Nat → Sample) (p j : Nat), n ∈ [1, 2, 4, 8] → p < 64 → j < n →
    ((packIndexed n sample).getD ((p * n + j) / 8) 0).getLsbD (7 - (p * n + j) % 8) = (sample p).getLsbD (n - 1 - j)

/-- R140, R141, R149: unpacking a packed tile gives back the low `BPP` bits of each of its 64 samples, in every mode;
and unpacking the buffer the block makes of tile `k` gives back, pixel by pixel, the low `BPP` bits of the canvas
samples of that tile. -/
def Obligations.UnpackOfPackIsTheLowBits : Prop :=
  (∀ (m : Mode) (sample : Nat → Sample) (p : Nat), p < 64 →
    m.unpack (m.pack sample) p = ((sample p).setWidth m.depth).setWidth 9) ∧
  (∀ (s : State) (m : Mode) (k p : Nat), s.actCfg.mode = some m → p < 64 →
    m.unpack (s.packTile k) p = ((s.canvasAt (s.actDim.tilePixel k p)).setWidth m.depth).setWidth 9) ∧
  Mode.idx1.depth = 1 ∧ Mode.idx2.depth = 2 ∧ Mode.idx4.depth = 4 ∧ Mode.idx8.depth = 8 ∧
  Mode.rgb332.depth = 8 ∧ Mode.rgb333.depth = 9

/-- R148: a tile buffer depends only on the mode, the dimensions and the low `BPP` bits of the tile's own 64
samples. -/
def Obligations.TileBufferDependsOnlyOnItsSamples : Prop :=
  ∀ (s t : State) (m : Mode) (k : Nat), s.actCfg.mode = some m → t.actCfg.mode = some m →
    (∀ p < 64, ((s.tileSample k p).setWidth m.depth : BitVec m.depth) = (t.tileSample k p).setWidth m.depth) →
    s.packTile k = t.packTile k

/-! ### The comparator -/

/-- R160, R162, R163, R165: the update list is strictly ascending and holds exactly the tiles that changed: all of them
on a keyframe, else those with a byte that differs from the retained one. -/
def Obligations.UpdatesAreTheChangedTilesAscending : Prop :=
  ∀ s : State,
    s.updates.Pairwise (· < ·) ∧ s.updates.length ≤ s.tileCount ∧
    (∀ k, k ∈ s.updates ↔ k < s.tileCount ∧
      (s.isKey = true ∨ ∃ j < s.tileBytes, (s.packTile k).getD j 0 ≠ s.prevByte (k * s.tileBytes + j))) ∧
    (s.isKey = true → s.updates = List.range s.tileCount) ∧
    (s.isKey = true ↔ s.prevValid = false ∨ (s.actKfi.toNat ≠ 0 ∧ s.frameIdx.toNat % s.actKfi.toNat = 0))

/-- R165: encoding the same frame again, not as a keyframe, gives no update: the record is `00 00 00`, or `00 00`
in the flat form. `u` is any later state of the session in which the canvas and `Prev` are as they were left. -/
def Obligations.UnchangedFrameHasNoUpdate : Prop :=
  ∀ s t u : State, s.pending = [] → s.cfgValid = true → exec .encode s = next t →
    u.actCfg = s.actCfg → u.actDim = s.actDim → (∀ i, u.canvasAt i = s.canvasAt i) →
    (∀ a < u.prevExtent, u.prevByte a = t.prevByte a) → u.isKey = false →
    u.updates = [] ∧ u.record = if u.actCfg.recfmt then [0x00, 0x00] else [0x00, 0x00, 0x00]

/-- R166: a keyframe's record depends on the active configuration and the current canvas alone, not on `Prev` nor
on any earlier frame. -/
def Obligations.KeyframeRecordDependsOnTheCanvasAlone : Prop :=
  ∀ s t : State, s.isKey = true → t.isKey = true → s.actCfg = t.actCfg → s.actDim = t.actDim →
    (∀ i < s.npix, s.canvasAt i = t.canvasAt i) → s.record = t.record

/-- R42, R41, R286: `Prev` is never observable: of two states that are alike but for `Prev` bytes not in use, the
next states are alike again, so every read returns equal values for ever. -/
def Obligations.PreviousTilesAreUnobservable : Prop :=
  ∀ s t s' t' : State, s.alike t → step s = next s' → step t = next t' → s'.alike t'

/-! ### Skip-RLE and the records -/

/-- R181: a gap takes `gap div 255` bytes of 255 and then the byte `gap mod 255`. -/
def Obligations.SkipBytesOfAGap : Prop :=
  ∀ gap : Nat, skipBytes gap = List.replicate (gap / 255) 255 ++ [BitVec.ofNat 8 (gap % 255)]

/-- R186: the lengths of the two record forms, from the number of updates, `TILE_BYTES` and the gaps. -/
def Obligations.RecordLengths : Prop :=
  ∀ (U : List Nat) (cur : Nat → List Byte) (tb : Nat) (key : Bool), (∀ t ∈ U, (cur t).length = tb) →
    (recordFlat U cur).length = 2 + U.length * (2 + tb) ∧
    (recordSkip key U cur).length =
      3 + U.length * tb + ((U.zip (0 :: U.map (· + 1))).map fun g => (g.1 - g.2) / 255 + 1).sum

/-- R188, R180, R183: decoding a skip-RLE record gives back the flags byte, exactly the ascending update list with
its buffers, and nothing of what follows the record. -/
def Obligations.SkipRecordDecodesToItsUpdates : Prop :=
  ∀ (U : List Nat) (cur : Nat → List Byte) (tb : Nat) (key : Bool) (more : List Byte),
    U.Pairwise (· < ·) → U.length ≤ 65535 → (∀ t ∈ U, (cur t).length = tb) →
    decodeSkipRecord tb (recordSkip key U cur ++ more) =
      some ⟨if key then 0x01 else 0x00, U.map fun t => (t, cur t), more⟩

/-- R188, R184: decoding a flat record gives back its updates, for tile indices of 16 bits. -/
def Obligations.FlatRecordDecodesToItsUpdates : Prop :=
  ∀ (U : List Nat) (cur : Nat → List Byte) (tb : Nat) (more : List Byte),
    U.length ≤ 65535 → (∀ t ∈ U, t ≤ 65535 ∧ (cur t).length = tb) →
    decodeFlatRecord tb (recordFlat U cur ++ more) = some (U.map fun t => (t, cur t), more)

/-- R188, R216, R163, R184: the record of an accepted frame, in the form its configuration selects, decodes to
exactly the tiles that changed, each with its packed bytes, and to the keyframe flag. -/
def Obligations.EncodedFrameDecodesToTheChangedTiles : Prop :=
  ∀ s t : State, Inv s → s.pending = [] → s.cfgValid = true → exec .encode s = next t →
    (s.actCfg.recfmt = false →
      decodeSkipRecord s.tileBytes t.pending =
        some ⟨if s.isKey then 0x01 else 0x00, s.updates.map fun k => (k, s.packTile k), []⟩) ∧
    (s.actCfg.recfmt = true →
      decodeFlatRecord s.tileBytes t.pending = some (s.updates.map fun k => (k, s.packTile k), []))

/-! ### Commands -/

/-- R210, R89 to R91: a `CMD` write runs the command its word names, and any other word raises `E_BAD_CMD`
whatever the state, with no other effect. -/
def Obligations.CommandWordsAndReservedWords : Prop :=
  ∀ (s : State) (d : Word),
    (d = 0x00000000 → exec (.wrCmd d) s = next s) ∧
    (d = 0x00000001 → exec (.wrCmd d) s = exec .init s) ∧
    (d = 0x00000002 → exec (.wrCmd d) s = exec .encode s) ∧
    (d ≠ 0x00000000 → d ≠ 0x00000001 → d ≠ 0x00000002 → exec (.wrCmd d) s = next (s.raiseError .eBadCmd)) ∧
    busCode (.wrCmd d) = some 0x1010 ∧ encode .init = .cmd 0x00000001 ∧ encode .encode = .cmd 0x00000002

/-- R211, R212: reading `CMD` returns 0, and `NOP` does nothing, each in every state. -/
def Obligations.NopAndCommandRead : Prop :=
  ∀ s : State,
    exec .nop s = next s ∧ exec .rdCmd s = next { s with reads := s.reads ++ [⟨0x010, 0x00000000⟩] } ∧
    encode .nop = .cmd 0x00000000 ∧ busCode .rdCmd = some 0x0010

/-- R213, R214: what INIT's check answers, condition by condition, in the order of the rule. -/
def Obligations.ConfigurationCheckOrder : Prop :=
  ∀ (c : CfgReg) (d : DimReg) (canvasCap prevCap : Word),
    let w := d.width.toNat
    let h := d.height.toNat
    let legal : Prop := (c.direct = false ∧ c.bpp.toNat ∈ [1, 2, 4, 8]) ∨ (c.direct = true ∧ c.bpp.toNat ∈ [8, 9])
    let dims : Prop := w ≠ 0 ∧ h ≠ 0 ∧ w % 8 = 0 ∧ h % 8 = 0
    let tiles : Prop := (w / 8) * (h / 8) ≤ 65535
    let tileBytes : Nat := if c.direct then (if c.bpp.toNat = 8 then 64 else 128) else 8 * c.bpp.toNat
    let fits : Prop := w * h ≤ canvasCap.toNat ∧ (w / 8) * (h / 8) * tileBytes ≤ prevCap.toNat
    (¬ legal → cfgCheck c d canvasCap prevCap = .eCfgBpp) ∧
    (legal → ¬ dims → cfgCheck c d canvasCap prevCap = .eCfgDim) ∧
    (legal → dims → ¬ tiles → cfgCheck c d canvasCap prevCap = .eCfgTiles) ∧
    (legal → dims → tiles → ¬ fits → cfgCheck c d canvasCap prevCap = .eCfgCap) ∧
    (legal → dims → tiles → fits → cfgCheck c d canvasCap prevCap = .eNone)

/-- R213: an INIT whose check passes starts a session with the staged configuration in force. The canvas,
`PIX_ADDR`, `IRQ_EN` and the error capture stay; what `Prev` holds is unspecified from then on (R42). -/
def Obligations.InitStartsASession : Prop :=
  ∀ s : State, s.pending = [] → cfgCheck s.cfg s.dim s.canvasCap s.prevCap = .eNone →
    ∃ t, exec .init s = next t ∧
      t = { s with
        frameIdx := 0, prevValid := false, lastKey := false, updCount := 0, recLen := 0, done := false, ofifo := []
        actCfg := s.cfg, actDim := s.dim, actKfi := s.kfi, cfgValid := true
        prev := t.prev, prevEpoch := t.prevEpoch }

/-- R213, R275: an INIT whose check fails still resets the session, then clears `CFG_VALID`, keeps the old active
configuration and raises the check's code; while busy it only raises `E_BUSY`. -/
def Obligations.InitFailures : Prop :=
  ∀ s : State,
    (s.pending ≠ [] → exec .init s = next (s.raiseError .eBusy)) ∧
    (s.pending = [] → cfgCheck s.cfg s.dim s.canvasCap s.prevCap ≠ .eNone →
      ∃ t, exec .init s = next t ∧
        t = { s with
          frameIdx := 0, prevValid := false, lastKey := false, updCount := 0, recLen := 0, done := false, ofifo := []
          cfgValid := false
          err := true
          errMulti := s.errMulti || s.err
          errCode := if s.err then s.errCode else cfgCheck s.cfg s.dim s.canvasCap s.prevCap
          prev := t.prev, prevEpoch := t.prevEpoch })

/-- R215: ENCODE is refused while busy, then while not configured, with nothing changed but the capture; else it
is accepted. -/
def Obligations.EncodeRefusalsAndAcceptance : Prop :=
  ∀ s : State,
    (s.pending ≠ [] → exec .encode s = next (s.raiseError .eBusy)) ∧
    (s.pending = [] → s.cfgValid = false → exec .encode s = next (s.raiseError .eNotCfg)) ∧
    (s.pending = [] → s.cfgValid = true → exec .encode s = next s.acceptFrame)

/-- R216, R160, R164: an accepted ENCODE, in one step: it classifies the frame, puts the record of the changed
tiles on its way, retains the current tiles, and counts the frame. Every byte of `Prev` beyond the tiles, and
everything not named, stays. -/
def Obligations.EncodeAcceptsAFrame : Prop :=
  ∀ s : State, s.pending = [] → s.cfgValid = true →
    ∃ t key, exec .encode s = next t ∧
      (key = true ↔ s.prevValid = false ∨ (s.actKfi.toNat ≠ 0 ∧ s.frameIdx.toNat % s.actKfi.toNat = 0)) ∧
      t = { s with
        frameIdx := s.frameIdx + 1
        lastKey := key
        updCount := BitVec.ofNat 16 s.updates.length
        recLen := BitVec.ofNat 32 t.pending.length
        done := false
        pending := if s.actCfg.recfmt then recordFlat s.updates s.packTile else recordSkip key s.updates s.packTile
        prevValid := true
        prev := t.prev } ∧
      t.pending ≠ [] ∧
      (∀ k < s.tileCount, ∀ j < s.tileBytes, t.prevByte (k * s.tileBytes + j) = (s.packTile k).getD j 0) ∧
      (∀ a, s.tileCount * s.tileBytes ≤ a → t.prevByte a = s.prevByte a)

/-- R25: only a successful INIT, and hardware reset, write the active configuration. -/
def Obligations.ActiveConfigurationChangesOnlyByInit : Prop :=
  ∀ s t : State, step s = next t →
    (t.actCfg ≠ s.actCfg ∨ t.actDim ≠ s.actDim ∨ t.actKfi ≠ s.actKfi) →
    s.nextIsReset ∨ (s.runsInit ∧ t.cfgValid = true)

/-! ### The engine and the output FIFO -/

/-- R218, R11, R69, R287: the engine's turn, whether the environment gives it or no input is left. If `PENDING` is
not empty and the FIFO is not full, it pushes the next byte, and sets `DONE` with the last one; else it does
nothing. -/
def Obligations.EngineTurnPushesOneByte : Prop :=
  ∀ s : State,
    (s.inputs = [] → step s = next s.engineTurn) ∧
    (∀ rest, s.inputs = .engine :: rest → step s = next ({ s with inputs := rest }).engineTurn) ∧
    (∀ b rest, s.pending = b :: rest → s.ofifo.length < s.fifoDepth.toNat →
      s.engineTurn = { s with
        pending := rest
        ofifo := s.ofifo ++ [b]
        done := if rest = [] then true else s.done }) ∧
    (s.pending = [] ∨ s.fifoDepth.toNat ≤ s.ofifo.length → s.engineTurn = s)

/-- R219, R220: a read of `OUT_DATA` pops the head with VALID set, or returns 0 from an empty FIFO; a read of
`OUT_LEVEL` returns the occupancy and pops nothing. Each is allowed in every state. -/
def Obligations.OutputFifoReads : Prop :=
  ∀ s : State,
    (s.ofifo = [] → exec .rdOutData s = next { s with reads := s.reads ++ [⟨0x028, 0x00000000⟩] }) ∧
    (∀ b rest, s.ofifo = b :: rest →
      exec .rdOutData s = next { s with
        ofifo := rest, reads := s.reads ++ [⟨0x028, BitVec.ofNat 32 (256 + b.toNat)⟩] }) ∧
    exec .rdOutLevel s = next { s with reads := s.reads ++ [⟨0x02C, BitVec.ofNat 32 s.ofifo.length⟩] } ∧
    busCode .rdOutData = some 0x0028 ∧ busCode .rdOutLevel = some 0x002C

/-- R70, R307: over a whole run, with every interleaving, the bytes the host has popped, the bytes in the FIFO and
the bytes still to push are, in that order, those there were at the start followed by the records of the ENCODEs
accepted on the way, as long as no INIT and no reset discards output. -/
def Obligations.OutputIsTheRecordsInOrder : Prop :=
  ∀ (s : State) (k : Nat), (∀ j < k, ¬ (State.afterSteps j s).discardsOutput) →
    (State.afterSteps k s).stream = s.stream ++ State.emittedIn k s

/-- R213, R300, R311: an INIT that is carried out, and reset, discard what the host has not popped, and no more:
what it has popped stays popped. -/
def Obligations.InitAndResetDiscardUnreadOutput : Prop :=
  ∀ s t : State, step s = next t → s.discardsOutput → t.stream = s.popped ∧ t.ofifo = [] ∧ t.pending = []

/-- R308, R218: while the FIFO is full and the host does not pop, the block stays busy for ever: only a read of
`OUT_DATA`, or reset, ends the stall. -/
def Obligations.FullFifoStallsUntilPopped : Prop :=
  ∀ s t : State, s.pending ≠ [] → s.fifoDepth.toNat ≤ s.ofifo.length → step s = next t →
    ¬ s.nextIs (.read 0x028) → ¬ s.nextIsReset →
    t.pending = s.pending ∧ t.ofifo = s.ofifo

/-- R73, R308, R218: a host that keeps popping, with the engine getting a turn after each pop, completes the record
in progress: after as many pops and turns as bytes are left, `BUSY = 0` and `DONE = 1`. -/
def Obligations.PoppingHostCompletesTheRecord : Prop :=
  ∀ (s : State) (rest : List Event), Inv s → s.pending ≠ [] →
    s.inputs = (List.replicate s.pending.length [Event.host (.read 0x028), Event.engine]).flatten ++ rest →
    (State.afterSteps (2 * s.pending.length) s).pending = [] ∧
    (State.afterSteps (2 * s.pending.length) s).done = true ∧
    (State.afterSteps (2 * s.pending.length) s).inputs = rest

/-- R305, R72: while busy, no step but reset changes a sample of the canvas, written or not, the active configuration
with its validity, `Prev`, or the record in progress other than by pushing it, and an INIT, an ENCODE or a `PIX_DATA`
write is refused with `E_BUSY`. -/
def Obligations.BusyWindowRefusesAndFreezes : Prop :=
  ∀ (s t : State) (d : Word), s.pending ≠ [] →
    exec .init s = next (s.raiseError .eBusy) ∧ exec .encode s = next (s.raiseError .eBusy) ∧
    exec (.wrPixData d) s = next (s.raiseError .eBusy) ∧
    (step s = next t → ¬ s.nextIsReset →
      t.canvas = s.canvas ∧ (∀ i, t.canvasAt i = s.canvasAt i) ∧
      t.actCfg = s.actCfg ∧ t.actDim = s.actDim ∧ t.actKfi = s.actKfi ∧ t.cfgValid = s.cfgValid ∧
      t.prev = s.prev ∧ (∀ a, t.prevByte a = s.prevByte a) ∧
      (t.pending = s.pending ∨ ∃ b, s.pending = b :: t.pending ∧ t.ofifo = s.ofifo ++ [b]))

/-! ### Host programs -/

/-- R97, R98: a well-formed line of a host program stands for one transaction, the one that the line writes, with the
data word bit for bit; `rep` writes its body out. The one notation that is no line, `wait_idle`, is host control flow
and not part of this. -/
def Obligations.HostLinesStandForTheirTransactions : Prop :=
  (∀ r : Reg, lineTxn (.rd r) = .read r.offset ∧ decodeTxn (lineTxn (.rd r)) = .instr r.readInstr) ∧
  (∀ (r : Reg) (imm : Nat), (HostLine.wr r imm).wf = true →
    (lineTxn (.wr r imm)).code.toNat = 0x1000 + r.offset.toNat ∧ (lineTxn (.wr r imm)).data.toNat = imm ∧
    decodeTxn (lineTxn (.wr r imm)) = .instr (r.writeInstr (BitVec.ofNat 32 imm))) ∧
  (∀ off : Nat, (HostLine.rdRaw off).wf = true → (lineTxn (.rdRaw off)).code.toNat = off) ∧
  (∀ off imm : Nat, (HostLine.wrRaw off imm).wf = true →
    (lineTxn (.wrRaw off imm)).code.toNat = 0x1000 + off ∧ (lineTxn (.wrRaw off imm)).data.toNat = imm) ∧
  (∀ v : Nat, (HostLine.pix v).wf = true →
    (lineTxn (.pix v)).code = 0x1034 ∧ (lineTxn (.pix v)).data.toNat = v) ∧
  (∀ r g b : Nat, (HostLine.rgb r g b).wf = true →
    (lineTxn (.rgb r g b)).code = 0x1034 ∧ (lineTxn (.rgb r g b)).data.toNat = r * 65536 + g * 256 + b ∧
    (pixR (lineTxn (.rgb r g b)).data).toNat = r ∧ (pixG (lineTxn (.rgb r g b)).data).toNat = g ∧
    (pixB (lineTxn (.rgb r g b)).data).toNat = b) ∧
  lineTxn .clrDone = .write 0x014 0x00000004 ∧ lineTxn .clrErr = .write 0x014 0x00000008 ∧
  lineTxn .pop = .read 0x028 ∧ lineTxn (.cmd .nop) = .write 0x010 0x00000000 ∧
  lineTxn (.cmd .init) = .write 0x010 0x00000001 ∧ lineTxn (.cmd .encode) = .write 0x010 0x00000002 ∧
  (∀ (n : Nat) (body : List HostLine),
    HostLine.rep 0 body = [] ∧ HostLine.rep (n + 1) body = body ++ HostLine.rep n body)
end

