-- ==== Sys2Proof/Laws/Decode.lean ====
section
/-! SUPPORT. What the decoder answers: one lemma for the read and one for the write of a register, one for each
command, and the lemma that an offset outside the map is rejected. -/

namespace Sys2Proof.Laws

theorem Reg.mem_all (r : Reg) : r ∈ Reg.all := by cases r <;> decide

/-- The row that the code of a register's read selects. -/
theorem busRow_read (r : Reg) : busRow (txnCode 0#1 r.offset) = some ⟨txnCode 0#1 r.offset, 0x1FFF, .rd r⟩ := by
  cases r <;> decide

/-- The row that the code of a register's write selects. -/
theorem busRow_write (r : Reg) : busRow (txnCode 1#1 r.offset) = some ⟨txnCode 1#1 r.offset, 0x1FFF, .wr r⟩ := by
  cases r <;> decide

theorem decodeTxn_read (r : Reg) : decodeTxn (.read r.offset) = .instr r.readInstr := by
  unfold decodeTxn Txn.code
  rw [busRow_read]
  rfl

theorem decodeTxn_write (r : Reg) (d : Word) : decodeTxn (.write r.offset d) = .instr (r.writeInstr d) := by
  unfold decodeTxn Txn.code
  simp only [busRow_write]
  rfl

theorem decodeCommand_nop : decodeCommand 0 = some .nop := by decide

theorem decodeCommand_init : decodeCommand 1 = some .init := by decide

theorem decodeCommand_encode : decodeCommand 2 = some .encode := by decide

/-- Every other word is reserved. -/
theorem decodeCommand_reserved {d : Word} (h0 : d ≠ 0) (h1 : d ≠ 1) (h2 : d ≠ 2) : decodeCommand d = none := by
  have hd : d &&& 0xFFFFFFFF#32 = d := BitVec.and_allOnes (x := d)
  have h0 : (d == 0#32) = false := by simpa using h0
  have h1 : (d == 1#32) = false := by simpa using h1
  have h2 : (d == 2#32) = false := by simpa using h2
  simp [decodeCommand, cmdRows, List.find?, hd, h0, h1, h2]

theorem txnCode_inj {w w' : BitVec 1} {o o' : Offset} (h : txnCode w o = txnCode w' o') : w = w' ∧ o = o' := by
  have := congrArg BitVec.toNat h
  simp only [txnCode, BitVec.toNat_append] at this
  have ho := o.isLt
  have ho' := o'.isLt
  rw [← Nat.shiftLeft_add_eq_or_of_lt ho, ← Nat.shiftLeft_add_eq_or_of_lt ho', Nat.shiftLeft_eq,
    Nat.shiftLeft_eq] at this
  exact ⟨BitVec.eq_of_toNat_eq (by omega), BitVec.eq_of_toNat_eq (by omega)⟩

/-- A row that matches a code is one of the register map's, and its pattern is the code. -/
theorem busRow_spec {tc : TxnCode} {row : BusRow} (h : busRow tc = some row) :
    row.pattern = tc ∧ ∃ r : Reg, row = ⟨txnCode 0#1 r.offset, 0x1FFF, .rd r⟩ ∨
      row = ⟨txnCode 1#1 r.offset, 0x1FFF, .wr r⟩ := by
  have hm : row ∈ busRows := List.mem_of_find?_eq_some h
  have hp : row.matchesCode tc = true := List.find?_some (p := fun row : BusRow => row.matchesCode tc) h
  obtain ⟨r, -, hr⟩ := List.mem_flatMap.mp hm
  have hrow : row = ⟨txnCode 0#1 r.offset, 0x1FFF, .rd r⟩ ∨ row = ⟨txnCode 1#1 r.offset, 0x1FFF, .wr r⟩ := by
    simpa [busRowsOf] using hr
  have hmask : row.mask = BitVec.allOnes 13 := by rcases hrow with rfl | rfl <;> rfl
  refine ⟨?_, r, hrow⟩
  have : tc &&& row.mask = row.pattern := by simpa [BusRow.matchesCode] using hp
  rw [hmask, BitVec.and_allOnes] at this
  exact this.symm

/-- An offset that is no register's is rejected, for a read and for a write. -/
theorem busRow_none {w : BitVec 1} {off : Offset} (h : ∀ r : Reg, off ≠ r.offset) : busRow (txnCode w off) = none := by
  rcases hb : busRow (txnCode w off) with - | row
  · rfl
  · obtain ⟨hp, r, rfl | rfl⟩ := busRow_spec hb
    · exact absurd (txnCode_inj hp).2.symm (h r)
    · exact absurd (txnCode_inj hp).2.symm (h r)

end Sys2Proof.Laws
end

