-- ==== Sys2Proof/Laws/Memory.lean ====
section
/-! SUPPORT. The laws of the memory operations: what is read after a write, and that every operation keeps the
canonical form and the bound on the addresses. -/

namespace Sys2Proof.Machine

variable {w : Nat}

/-! ### Reading and writing one cell -/

@[simp] theorem Memory.read_nil (a : Nat) : Memory.read ([] : Memory w) a = none := rfl

theorem Memory.read_cons (b : Nat) (v : BitVec w) (m : Memory w) (a : Nat) :
    Memory.read ((b, v) :: m) a = if a = b then some v else Memory.read m a := rfl

@[simp] theorem Memory.read_write_same (m : Memory w) (a : Nat) (v : BitVec w) :
    (Memory.write m a v).read a = some v := by
  induction m with
  | nil => simp [Memory.write, Memory.read]
  | cons c m ih =>
    obtain ⟨b, u⟩ := c
    simp only [Memory.write]
    split_ifs with h1 h2
    · simp [Memory.read]
    · simp [Memory.read]
    · simp [Memory.read, h2, ih]

theorem Memory.read_write_other (m : Memory w) {a a' : Nat} (v : BitVec w) (h : a' ≠ a) :
    (Memory.write m a v).read a' = m.read a' := by
  induction m with
  | nil => simp [Memory.write, Memory.read, h]
  | cons c m ih =>
    obtain ⟨b, u⟩ := c
    simp only [Memory.write]
    split_ifs with h1 h2
    · simp [Memory.read, h]
    · subst h2; simp [Memory.read, h]
    · simp [Memory.read, ih]

/-- The cells of a memory after a write: the cell written, and the others. -/
theorem Memory.mem_write {m : Memory w} {a : Nat} {v : BitVec w} {c : Nat × BitVec w}
    (h : c ∈ Memory.write m a v) : c = (a, v) ∨ c ∈ m := by
  induction m with
  | nil => simpa [Memory.write] using h
  | cons d m ih =>
    obtain ⟨b, u⟩ := d
    simp only [Memory.write] at h
    split_ifs at h with h1 h2
    · simpa using h
    · rcases List.mem_cons.mp h with h | h
      · exact .inl h
      · exact .inr (List.mem_cons_of_mem _ h)
    · rcases List.mem_cons.mp h with h | h
      · exact .inr (h ▸ List.mem_cons_self)
      · exact (ih h).imp id (List.mem_cons_of_mem _)

theorem Memory.write_wf {m : Memory w} (a : Nat) (v : BitVec w) (h : m.wf) : (Memory.write m a v).wf := by
  induction m with
  | nil => exact List.pairwise_singleton _ _
  | cons d m ih =>
    obtain ⟨b, u⟩ := d
    have hb := List.pairwise_cons.mp h
    simp only [Memory.write]
    split_ifs with h1 h2
    · refine List.pairwise_cons.mpr ⟨fun c hc => ?_, h⟩
      rcases List.mem_cons.mp hc with rfl | hc
      · exact h1
      · exact Nat.lt_trans h1 (hb.1 c hc)
    · subst h2
      exact List.pairwise_cons.mpr ⟨hb.1, hb.2⟩
    · refine List.pairwise_cons.mpr ⟨fun c hc => ?_, ih hb.2⟩
      rcases Memory.mem_write hc with rfl | hc
      · exact lt_of_le_of_ne (Nat.le_of_not_lt h1) (Ne.symm h2)
      · exact hb.1 c hc

theorem Memory.write_below {m : Memory w} {cap a : Nat} (v : BitVec w) (h : m.below cap) (ha : a < cap) :
    (Memory.write m a v).below cap := fun c hc => by
  rcases Memory.mem_write hc with rfl | hc
  · exact ha
  · exact h c hc

/-- Below its first address a memory in canonical form lists nothing. -/
theorem Memory.read_eq_none_of_lt {m : Memory w} {a : Nat} (h : ∀ c ∈ m, a < c.1) : m.read a = none := by
  induction m with
  | nil => rfl
  | cons c m ih =>
    have hc := h c List.mem_cons_self
    have hm := ih fun c' hc' => h c' (List.mem_cons_of_mem _ hc')
    obtain ⟨b, u⟩ := c
    simp only [Memory.read, hm]
    rw [if_neg (by simp only at hc; omega)]

/-- Two memories in canonical form that list the same are the same data. -/
theorem Memory.ext {m n : Memory w} (hm : m.wf) (hn : n.wf) (h : ∀ a, m.read a = n.read a) : m = n := by
  induction m generalizing n with
  | nil =>
    cases n with
    | nil => rfl
    | cons d n => have := h d.1; simp [Memory.read] at this
  | cons c m ih =>
    cases n with
    | nil => have := h c.1; simp [Memory.read] at this
    | cons d n =>
      obtain ⟨a, u⟩ := c
      obtain ⟨b, v⟩ := d
      have hm' := List.pairwise_cons.mp hm
      have hn' := List.pairwise_cons.mp hn
      have hab : a = b := by
        rcases Nat.lt_trichotomy a b with hlt | heq | hgt
        · have := h a
          rw [Memory.read_cons, if_pos rfl, Memory.read_cons, if_neg (by omega),
            Memory.read_eq_none_of_lt fun c hc => Nat.lt_trans hlt (hn'.1 c hc)] at this
          simp at this
        · exact heq
        · have := h b
          rw [Memory.read_cons, if_neg (by omega), Memory.read_cons, if_pos rfl,
            Memory.read_eq_none_of_lt fun c hc => Nat.lt_trans hgt (hm'.1 c hc)] at this
          simp at this
      subst hab
      have huv : u = v := by simpa [Memory.read] using h a
      subst huv
      congr 1
      refine ih hm'.2 hn'.2 fun x => ?_
      by_cases hx : x = a
      · subst hx
        rw [Memory.read_eq_none_of_lt fun c hc => hm'.1 c hc, Memory.read_eq_none_of_lt fun c hc => hn'.1 c hc]
      · simpa [Memory.read, hx] using h x

/-! ### Writing a prefix -/

theorem Memory.mem_cells {base : Nat} {vs : List (BitVec w)} {c : Nat × BitVec w} (h : c ∈ Memory.cells base vs) :
    base ≤ c.1 ∧ c.1 < base + vs.length := by
  induction vs generalizing base with
  | nil => simp [Memory.cells] at h
  | cons v vs ih =>
    rcases List.mem_cons.mp h with rfl | h
    · simp
    · have := ih h
      simp only [List.length_cons]
      omega

theorem Memory.cells_wf (base : Nat) (vs : List (BitVec w)) : (Memory.cells base vs).wf := by
  induction vs generalizing base with
  | nil => exact List.Pairwise.nil
  | cons v vs ih =>
    exact List.pairwise_cons.mpr ⟨fun c hc => (Memory.mem_cells hc).1, ih _⟩

theorem Memory.read_cells_append (m : Memory w) (base : Nat) (vs : List (BitVec w)) (a : Nat) :
    Memory.read (Memory.cells base vs ++ m) a =
      if base ≤ a ∧ a < base + vs.length then vs[a - base]? else Memory.read m a := by
  induction vs generalizing base with
  | nil => rw [if_neg (by simp only [List.length_nil]; omega)]; rfl
  | cons v vs ih =>
    simp only [Memory.cells, List.cons_append, Memory.read, ih, List.length_cons]
    by_cases h : a = base
    · subst h; simp
    · rw [if_neg h]
      by_cases h' : base + 1 ≤ a ∧ a < base + 1 + vs.length
      · rw [if_pos h', if_pos (by omega), show a - base = (a - (base + 1)) + 1 by omega, List.getElem?_cons_succ]
      · rw [if_neg h', if_neg (by omega)]

theorem Memory.read_filter_ge (m : Memory w) {k a : Nat} (h : k ≤ a) :
    Memory.read (m.filter fun c => k ≤ c.1) a = Memory.read m a := by
  induction m with
  | nil => rfl
  | cons c m ih =>
    obtain ⟨b, u⟩ := c
    by_cases hb : k ≤ b
    · rw [List.filter_cons_of_pos (by simpa using hb)]
      simp only [Memory.read, ih]
    · rw [List.filter_cons_of_neg (by simpa using hb), ih, Memory.read_cons, if_neg (by omega)]

/-- What is read after writing a prefix. -/
theorem Memory.read_writePrefix (m : Memory w) (vs : List (BitVec w)) (a : Nat) :
    (Memory.writePrefix m vs).read a = if a < vs.length then vs[a]? else m.read a := by
  unfold Memory.writePrefix
  rw [Memory.read_cells_append]
  by_cases h : a < vs.length
  · rw [if_pos (by omega), if_pos h]; rfl
  · rw [if_neg (by omega), if_neg h, Memory.read_filter_ge m (by omega)]

theorem Memory.writePrefix_wf {m : Memory w} (vs : List (BitVec w)) (h : m.wf) : (Memory.writePrefix m vs).wf := by
  refine List.pairwise_append.mpr ⟨Memory.cells_wf 0 vs, h.filter _, fun c hc d hd => ?_⟩
  have h1 := (Memory.mem_cells hc).2
  have h2 : vs.length ≤ d.1 := by simpa using (List.mem_filter.mp hd).2
  omega

theorem Memory.writePrefix_below {m : Memory w} {vs : List (BitVec w)} {cap : Nat} (h : m.below cap)
    (hv : vs.length ≤ cap) : (Memory.writePrefix m vs).below cap := fun c hc => by
  rcases List.mem_append.mp hc with hc | hc
  · have := (Memory.mem_cells hc).2
    omega
  · exact h c (List.mem_filter.mp hc).1

/-! ### The canvas and the previous-tile store -/

@[simp] theorem State.canvasAt_writeCanvas_same (s : State) (i : Nat) (v : Sample) :
    (s.writeCanvas i v).canvasAt i = v := by
  simp [State.canvasAt, State.writeCanvas]

theorem State.canvasAt_writeCanvas_other (s : State) {i j : Nat} (v : Sample) (h : j ≠ i) :
    (s.writeCanvas i v).canvasAt j = s.canvasAt j := by
  simp [State.canvasAt, State.writeCanvas, Memory.read_write_other _ _ h]

/-- Reset's memories are in canonical form. -/
theorem State.reset_memories_wf : State.reset.canvas.wf ∧ State.reset.prev.wf := by decide

end Sys2Proof.Machine
end

