-- ==== Sys2Proof/Laws/State.lean ====
section
/-! SUPPORT. One lemma per field per update: what each named update of the State leaves in each field. -/

namespace Sys2Proof.Machine

/-! ### `State.respond` -/

@[simp] theorem State.respond_cfg (s : State) (off : Offset) (v : Word) : (s.respond off v).cfg = s.cfg := rfl
@[simp] theorem State.respond_dim (s : State) (off : Offset) (v : Word) : (s.respond off v).dim = s.dim := rfl
@[simp] theorem State.respond_kfi (s : State) (off : Offset) (v : Word) : (s.respond off v).kfi = s.kfi := rfl
@[simp] theorem State.respond_actCfg (s : State) (off : Offset) (v : Word) :
    (s.respond off v).actCfg = s.actCfg := rfl
@[simp] theorem State.respond_actDim (s : State) (off : Offset) (v : Word) :
    (s.respond off v).actDim = s.actDim := rfl
@[simp] theorem State.respond_actKfi (s : State) (off : Offset) (v : Word) :
    (s.respond off v).actKfi = s.actKfi := rfl
@[simp] theorem State.respond_cfgValid (s : State) (off : Offset) (v : Word) :
    (s.respond off v).cfgValid = s.cfgValid := rfl
@[simp] theorem State.respond_done (s : State) (off : Offset) (v : Word) : (s.respond off v).done = s.done := rfl
@[simp] theorem State.respond_err (s : State) (off : Offset) (v : Word) : (s.respond off v).err = s.err := rfl
@[simp] theorem State.respond_lastKey (s : State) (off : Offset) (v : Word) :
    (s.respond off v).lastKey = s.lastKey := rfl
@[simp] theorem State.respond_prevValid (s : State) (off : Offset) (v : Word) :
    (s.respond off v).prevValid = s.prevValid := rfl
@[simp] theorem State.respond_errMulti (s : State) (off : Offset) (v : Word) :
    (s.respond off v).errMulti = s.errMulti := rfl
@[simp] theorem State.respond_errCode (s : State) (off : Offset) (v : Word) :
    (s.respond off v).errCode = s.errCode := rfl
@[simp] theorem State.respond_irqEn (s : State) (off : Offset) (v : Word) : (s.respond off v).irqEn = s.irqEn := rfl
@[simp] theorem State.respond_frameIdx (s : State) (off : Offset) (v : Word) :
    (s.respond off v).frameIdx = s.frameIdx := rfl
@[simp] theorem State.respond_updCount (s : State) (off : Offset) (v : Word) :
    (s.respond off v).updCount = s.updCount := rfl
@[simp] theorem State.respond_recLen (s : State) (off : Offset) (v : Word) :
    (s.respond off v).recLen = s.recLen := rfl
@[simp] theorem State.respond_pixAddr (s : State) (off : Offset) (v : Word) :
    (s.respond off v).pixAddr = s.pixAddr := rfl
@[simp] theorem State.respond_canvasCap (s : State) (off : Offset) (v : Word) :
    (s.respond off v).canvasCap = s.canvasCap := rfl
@[simp] theorem State.respond_prevCap (s : State) (off : Offset) (v : Word) :
    (s.respond off v).prevCap = s.prevCap := rfl
@[simp] theorem State.respond_fifoDepth (s : State) (off : Offset) (v : Word) :
    (s.respond off v).fifoDepth = s.fifoDepth := rfl
@[simp] theorem State.respond_ofifo (s : State) (off : Offset) (v : Word) : (s.respond off v).ofifo = s.ofifo := rfl
@[simp] theorem State.respond_pending (s : State) (off : Offset) (v : Word) :
    (s.respond off v).pending = s.pending := rfl
@[simp] theorem State.respond_canvas (s : State) (off : Offset) (v : Word) :
    (s.respond off v).canvas = s.canvas := rfl
@[simp] theorem State.respond_prev (s : State) (off : Offset) (v : Word) : (s.respond off v).prev = s.prev := rfl
@[simp] theorem State.respond_canvasEpoch (s : State) (off : Offset) (v : Word) :
    (s.respond off v).canvasEpoch = s.canvasEpoch := rfl
@[simp] theorem State.respond_prevEpoch (s : State) (off : Offset) (v : Word) :
    (s.respond off v).prevEpoch = s.prevEpoch := rfl
@[simp] theorem State.respond_readDraws (s : State) (off : Offset) (v : Word) :
    (s.respond off v).readDraws = s.readDraws := rfl
@[simp] theorem State.respond_inputs (s : State) (off : Offset) (v : Word) :
    (s.respond off v).inputs = s.inputs := rfl
@[simp] theorem State.respond_reads (s : State) (off : Offset) (v : Word) :
    (s.respond off v).reads = s.reads ++ [⟨off, v⟩] := rfl

/-! ### `State.raiseError` -/

/-- The update of `raise Error(code)` as one record. -/
theorem State.raiseError_eq (s : State) (code : ErrCode) :
    s.raiseError code =
      { s with err := true, errMulti := s.errMulti || s.err, errCode := if s.err then s.errCode else code } := by
  cases s
  unfold State.raiseError
  split <;> simp_all

@[simp] theorem State.raiseError_cfg (s : State) (code : ErrCode) : (s.raiseError code).cfg = s.cfg := by
  simp [State.raiseError_eq]
@[simp] theorem State.raiseError_dim (s : State) (code : ErrCode) : (s.raiseError code).dim = s.dim := by
  simp [State.raiseError_eq]
@[simp] theorem State.raiseError_kfi (s : State) (code : ErrCode) : (s.raiseError code).kfi = s.kfi := by
  simp [State.raiseError_eq]
@[simp] theorem State.raiseError_actCfg (s : State) (code : ErrCode) : (s.raiseError code).actCfg = s.actCfg := by
  simp [State.raiseError_eq]
@[simp] theorem State.raiseError_actDim (s : State) (code : ErrCode) : (s.raiseError code).actDim = s.actDim := by
  simp [State.raiseError_eq]
@[simp] theorem State.raiseError_actKfi (s : State) (code : ErrCode) : (s.raiseError code).actKfi = s.actKfi := by
  simp [State.raiseError_eq]
@[simp] theorem State.raiseError_cfgValid (s : State) (code : ErrCode) : (s.raiseError code).cfgValid = s.cfgValid := by
  simp [State.raiseError_eq]
@[simp] theorem State.raiseError_done (s : State) (code : ErrCode) : (s.raiseError code).done = s.done := by
  simp [State.raiseError_eq]
@[simp] theorem State.raiseError_err (s : State) (code : ErrCode) : (s.raiseError code).err = true := by
  simp [State.raiseError_eq]
@[simp] theorem State.raiseError_lastKey (s : State) (code : ErrCode) : (s.raiseError code).lastKey = s.lastKey := by
  simp [State.raiseError_eq]
@[simp] theorem State.raiseError_prevValid (s : State) (code : ErrCode) : (s.raiseError code).prevValid = s.prevValid := by
  simp [State.raiseError_eq]
@[simp] theorem State.raiseError_errMulti (s : State) (code : ErrCode) : (s.raiseError code).errMulti = (s.errMulti || s.err) := by
  simp [State.raiseError_eq]
@[simp] theorem State.raiseError_errCode (s : State) (code : ErrCode) : (s.raiseError code).errCode = if s.err then s.errCode else code := by
  simp [State.raiseError_eq]
@[simp] theorem State.raiseError_irqEn (s : State) (code : ErrCode) : (s.raiseError code).irqEn = s.irqEn := by
  simp [State.raiseError_eq]
@[simp] theorem State.raiseError_frameIdx (s : State) (code : ErrCode) : (s.raiseError code).frameIdx = s.frameIdx := by
  simp [State.raiseError_eq]
@[simp] theorem State.raiseError_updCount (s : State) (code : ErrCode) : (s.raiseError code).updCount = s.updCount := by
  simp [State.raiseError_eq]
@[simp] theorem State.raiseError_recLen (s : State) (code : ErrCode) : (s.raiseError code).recLen = s.recLen := by
  simp [State.raiseError_eq]
@[simp] theorem State.raiseError_pixAddr (s : State) (code : ErrCode) : (s.raiseError code).pixAddr = s.pixAddr := by
  simp [State.raiseError_eq]
@[simp] theorem State.raiseError_canvasCap (s : State) (code : ErrCode) : (s.raiseError code).canvasCap = s.canvasCap := by
  simp [State.raiseError_eq]
@[simp] theorem State.raiseError_prevCap (s : State) (code : ErrCode) : (s.raiseError code).prevCap = s.prevCap := by
  simp [State.raiseError_eq]
@[simp] theorem State.raiseError_fifoDepth (s : State) (code : ErrCode) : (s.raiseError code).fifoDepth = s.fifoDepth := by
  simp [State.raiseError_eq]
@[simp] theorem State.raiseError_ofifo (s : State) (code : ErrCode) : (s.raiseError code).ofifo = s.ofifo := by
  simp [State.raiseError_eq]
@[simp] theorem State.raiseError_pending (s : State) (code : ErrCode) : (s.raiseError code).pending = s.pending := by
  simp [State.raiseError_eq]
@[simp] theorem State.raiseError_canvas (s : State) (code : ErrCode) : (s.raiseError code).canvas = s.canvas := by
  simp [State.raiseError_eq]
@[simp] theorem State.raiseError_prev (s : State) (code : ErrCode) : (s.raiseError code).prev = s.prev := by
  simp [State.raiseError_eq]
@[simp] theorem State.raiseError_canvasEpoch (s : State) (code : ErrCode) : (s.raiseError code).canvasEpoch = s.canvasEpoch := by
  simp [State.raiseError_eq]
@[simp] theorem State.raiseError_prevEpoch (s : State) (code : ErrCode) : (s.raiseError code).prevEpoch = s.prevEpoch := by
  simp [State.raiseError_eq]
@[simp] theorem State.raiseError_readDraws (s : State) (code : ErrCode) : (s.raiseError code).readDraws = s.readDraws := by
  simp [State.raiseError_eq]
@[simp] theorem State.raiseError_inputs (s : State) (code : ErrCode) : (s.raiseError code).inputs = s.inputs := by
  simp [State.raiseError_eq]
@[simp] theorem State.raiseError_reads (s : State) (code : ErrCode) : (s.raiseError code).reads = s.reads := by
  simp [State.raiseError_eq]

/-! ### `State.clearError` -/

@[simp] theorem State.clearError_cfg (s : State) : s.clearError.cfg = s.cfg := rfl
@[simp] theorem State.clearError_dim (s : State) : s.clearError.dim = s.dim := rfl
@[simp] theorem State.clearError_kfi (s : State) : s.clearError.kfi = s.kfi := rfl
@[simp] theorem State.clearError_actCfg (s : State) : s.clearError.actCfg = s.actCfg := rfl
@[simp] theorem State.clearError_actDim (s : State) : s.clearError.actDim = s.actDim := rfl
@[simp] theorem State.clearError_actKfi (s : State) : s.clearError.actKfi = s.actKfi := rfl
@[simp] theorem State.clearError_cfgValid (s : State) : s.clearError.cfgValid = s.cfgValid := rfl
@[simp] theorem State.clearError_done (s : State) : s.clearError.done = s.done := rfl
@[simp] theorem State.clearError_err (s : State) : s.clearError.err = false := rfl
@[simp] theorem State.clearError_lastKey (s : State) : s.clearError.lastKey = s.lastKey := rfl
@[simp] theorem State.clearError_prevValid (s : State) : s.clearError.prevValid = s.prevValid := rfl
@[simp] theorem State.clearError_errMulti (s : State) : s.clearError.errMulti = false := rfl
@[simp] theorem State.clearError_errCode (s : State) : s.clearError.errCode = .eNone := rfl
@[simp] theorem State.clearError_irqEn (s : State) : s.clearError.irqEn = s.irqEn := rfl
@[simp] theorem State.clearError_frameIdx (s : State) : s.clearError.frameIdx = s.frameIdx := rfl
@[simp] theorem State.clearError_updCount (s : State) : s.clearError.updCount = s.updCount := rfl
@[simp] theorem State.clearError_recLen (s : State) : s.clearError.recLen = s.recLen := rfl
@[simp] theorem State.clearError_pixAddr (s : State) : s.clearError.pixAddr = s.pixAddr := rfl
@[simp] theorem State.clearError_canvasCap (s : State) : s.clearError.canvasCap = s.canvasCap := rfl
@[simp] theorem State.clearError_prevCap (s : State) : s.clearError.prevCap = s.prevCap := rfl
@[simp] theorem State.clearError_fifoDepth (s : State) : s.clearError.fifoDepth = s.fifoDepth := rfl
@[simp] theorem State.clearError_ofifo (s : State) : s.clearError.ofifo = s.ofifo := rfl
@[simp] theorem State.clearError_pending (s : State) : s.clearError.pending = s.pending := rfl
@[simp] theorem State.clearError_canvas (s : State) : s.clearError.canvas = s.canvas := rfl
@[simp] theorem State.clearError_prev (s : State) : s.clearError.prev = s.prev := rfl
@[simp] theorem State.clearError_canvasEpoch (s : State) : s.clearError.canvasEpoch = s.canvasEpoch := rfl
@[simp] theorem State.clearError_prevEpoch (s : State) : s.clearError.prevEpoch = s.prevEpoch := rfl
@[simp] theorem State.clearError_readDraws (s : State) : s.clearError.readDraws = s.readDraws := rfl
@[simp] theorem State.clearError_inputs (s : State) : s.clearError.inputs = s.inputs := rfl
@[simp] theorem State.clearError_reads (s : State) : s.clearError.reads = s.reads := rfl

/-! ### `State.writeCanvas` -/

@[simp] theorem State.writeCanvas_cfg (s : State) (i : Nat) (v : Sample) : (s.writeCanvas i v).cfg = s.cfg := rfl
@[simp] theorem State.writeCanvas_dim (s : State) (i : Nat) (v : Sample) : (s.writeCanvas i v).dim = s.dim := rfl
@[simp] theorem State.writeCanvas_kfi (s : State) (i : Nat) (v : Sample) : (s.writeCanvas i v).kfi = s.kfi := rfl
@[simp] theorem State.writeCanvas_actCfg (s : State) (i : Nat) (v : Sample) :
    (s.writeCanvas i v).actCfg = s.actCfg := rfl
@[simp] theorem State.writeCanvas_actDim (s : State) (i : Nat) (v : Sample) :
    (s.writeCanvas i v).actDim = s.actDim := rfl
@[simp] theorem State.writeCanvas_actKfi (s : State) (i : Nat) (v : Sample) :
    (s.writeCanvas i v).actKfi = s.actKfi := rfl
@[simp] theorem State.writeCanvas_cfgValid (s : State) (i : Nat) (v : Sample) :
    (s.writeCanvas i v).cfgValid = s.cfgValid := rfl
@[simp] theorem State.writeCanvas_done (s : State) (i : Nat) (v : Sample) : (s.writeCanvas i v).done = s.done := rfl
@[simp] theorem State.writeCanvas_err (s : State) (i : Nat) (v : Sample) : (s.writeCanvas i v).err = s.err := rfl
@[simp] theorem State.writeCanvas_lastKey (s : State) (i : Nat) (v : Sample) :
    (s.writeCanvas i v).lastKey = s.lastKey := rfl
@[simp] theorem State.writeCanvas_prevValid (s : State) (i : Nat) (v : Sample) :
    (s.writeCanvas i v).prevValid = s.prevValid := rfl
@[simp] theorem State.writeCanvas_errMulti (s : State) (i : Nat) (v : Sample) :
    (s.writeCanvas i v).errMulti = s.errMulti := rfl
@[simp] theorem State.writeCanvas_errCode (s : State) (i : Nat) (v : Sample) :
    (s.writeCanvas i v).errCode = s.errCode := rfl
@[simp] theorem State.writeCanvas_irqEn (s : State) (i : Nat) (v : Sample) :
    (s.writeCanvas i v).irqEn = s.irqEn := rfl
@[simp] theorem State.writeCanvas_frameIdx (s : State) (i : Nat) (v : Sample) :
    (s.writeCanvas i v).frameIdx = s.frameIdx := rfl
@[simp] theorem State.writeCanvas_updCount (s : State) (i : Nat) (v : Sample) :
    (s.writeCanvas i v).updCount = s.updCount := rfl
@[simp] theorem State.writeCanvas_recLen (s : State) (i : Nat) (v : Sample) :
    (s.writeCanvas i v).recLen = s.recLen := rfl
@[simp] theorem State.writeCanvas_pixAddr (s : State) (i : Nat) (v : Sample) :
    (s.writeCanvas i v).pixAddr = s.pixAddr := rfl
@[simp] theorem State.writeCanvas_canvasCap (s : State) (i : Nat) (v : Sample) :
    (s.writeCanvas i v).canvasCap = s.canvasCap := rfl
@[simp] theorem State.writeCanvas_prevCap (s : State) (i : Nat) (v : Sample) :
    (s.writeCanvas i v).prevCap = s.prevCap := rfl
@[simp] theorem State.writeCanvas_fifoDepth (s : State) (i : Nat) (v : Sample) :
    (s.writeCanvas i v).fifoDepth = s.fifoDepth := rfl
@[simp] theorem State.writeCanvas_ofifo (s : State) (i : Nat) (v : Sample) :
    (s.writeCanvas i v).ofifo = s.ofifo := rfl
@[simp] theorem State.writeCanvas_pending (s : State) (i : Nat) (v : Sample) :
    (s.writeCanvas i v).pending = s.pending := rfl
@[simp] theorem State.writeCanvas_canvas (s : State) (i : Nat) (v : Sample) :
    (s.writeCanvas i v).canvas = s.canvas.write i v := rfl
@[simp] theorem State.writeCanvas_prev (s : State) (i : Nat) (v : Sample) : (s.writeCanvas i v).prev = s.prev := rfl
@[simp] theorem State.writeCanvas_canvasEpoch (s : State) (i : Nat) (v : Sample) :
    (s.writeCanvas i v).canvasEpoch = s.canvasEpoch := rfl
@[simp] theorem State.writeCanvas_prevEpoch (s : State) (i : Nat) (v : Sample) :
    (s.writeCanvas i v).prevEpoch = s.prevEpoch := rfl
@[simp] theorem State.writeCanvas_readDraws (s : State) (i : Nat) (v : Sample) :
    (s.writeCanvas i v).readDraws = s.readDraws := rfl
@[simp] theorem State.writeCanvas_inputs (s : State) (i : Nat) (v : Sample) :
    (s.writeCanvas i v).inputs = s.inputs := rfl
@[simp] theorem State.writeCanvas_reads (s : State) (i : Nat) (v : Sample) :
    (s.writeCanvas i v).reads = s.reads := rfl

/-! ### `State.storePixel` -/

@[simp] theorem State.storePixel_cfg (s : State) (d : Word) : (s.storePixel d).cfg = s.cfg := rfl
@[simp] theorem State.storePixel_dim (s : State) (d : Word) : (s.storePixel d).dim = s.dim := rfl
@[simp] theorem State.storePixel_kfi (s : State) (d : Word) : (s.storePixel d).kfi = s.kfi := rfl
@[simp] theorem State.storePixel_actCfg (s : State) (d : Word) : (s.storePixel d).actCfg = s.actCfg := rfl
@[simp] theorem State.storePixel_actDim (s : State) (d : Word) : (s.storePixel d).actDim = s.actDim := rfl
@[simp] theorem State.storePixel_actKfi (s : State) (d : Word) : (s.storePixel d).actKfi = s.actKfi := rfl
@[simp] theorem State.storePixel_cfgValid (s : State) (d : Word) : (s.storePixel d).cfgValid = s.cfgValid := rfl
@[simp] theorem State.storePixel_done (s : State) (d : Word) : (s.storePixel d).done = s.done := rfl
@[simp] theorem State.storePixel_err (s : State) (d : Word) : (s.storePixel d).err = s.err := rfl
@[simp] theorem State.storePixel_lastKey (s : State) (d : Word) : (s.storePixel d).lastKey = s.lastKey := rfl
@[simp] theorem State.storePixel_prevValid (s : State) (d : Word) : (s.storePixel d).prevValid = s.prevValid := rfl
@[simp] theorem State.storePixel_errMulti (s : State) (d : Word) : (s.storePixel d).errMulti = s.errMulti := rfl
@[simp] theorem State.storePixel_errCode (s : State) (d : Word) : (s.storePixel d).errCode = s.errCode := rfl
@[simp] theorem State.storePixel_irqEn (s : State) (d : Word) : (s.storePixel d).irqEn = s.irqEn := rfl
@[simp] theorem State.storePixel_frameIdx (s : State) (d : Word) : (s.storePixel d).frameIdx = s.frameIdx := rfl
@[simp] theorem State.storePixel_updCount (s : State) (d : Word) : (s.storePixel d).updCount = s.updCount := rfl
@[simp] theorem State.storePixel_recLen (s : State) (d : Word) : (s.storePixel d).recLen = s.recLen := rfl
@[simp] theorem State.storePixel_pixAddr (s : State) (d : Word) : (s.storePixel d).pixAddr = s.pixAddr + 1 := rfl
@[simp] theorem State.storePixel_canvasCap (s : State) (d : Word) : (s.storePixel d).canvasCap = s.canvasCap := rfl
@[simp] theorem State.storePixel_prevCap (s : State) (d : Word) : (s.storePixel d).prevCap = s.prevCap := rfl
@[simp] theorem State.storePixel_fifoDepth (s : State) (d : Word) : (s.storePixel d).fifoDepth = s.fifoDepth := rfl
@[simp] theorem State.storePixel_ofifo (s : State) (d : Word) : (s.storePixel d).ofifo = s.ofifo := rfl
@[simp] theorem State.storePixel_pending (s : State) (d : Word) : (s.storePixel d).pending = s.pending := rfl
@[simp] theorem State.storePixel_canvas (s : State) (d : Word) :
    (s.storePixel d).canvas = s.canvas.write s.pixAddr.toNat (s.actCfg.quantize d) := rfl
@[simp] theorem State.storePixel_prev (s : State) (d : Word) : (s.storePixel d).prev = s.prev := rfl
@[simp] theorem State.storePixel_canvasEpoch (s : State) (d : Word) :
    (s.storePixel d).canvasEpoch = s.canvasEpoch := rfl
@[simp] theorem State.storePixel_prevEpoch (s : State) (d : Word) : (s.storePixel d).prevEpoch = s.prevEpoch := rfl
@[simp] theorem State.storePixel_readDraws (s : State) (d : Word) : (s.storePixel d).readDraws = s.readDraws := rfl
@[simp] theorem State.storePixel_inputs (s : State) (d : Word) : (s.storePixel d).inputs = s.inputs := rfl
@[simp] theorem State.storePixel_reads (s : State) (d : Word) : (s.storePixel d).reads = s.reads := rfl

/-! ### `State.sessionReset` -/

@[simp] theorem State.sessionReset_cfg (s : State) : s.sessionReset.cfg = s.cfg := rfl
@[simp] theorem State.sessionReset_dim (s : State) : s.sessionReset.dim = s.dim := rfl
@[simp] theorem State.sessionReset_kfi (s : State) : s.sessionReset.kfi = s.kfi := rfl
@[simp] theorem State.sessionReset_actCfg (s : State) : s.sessionReset.actCfg = s.actCfg := rfl
@[simp] theorem State.sessionReset_actDim (s : State) : s.sessionReset.actDim = s.actDim := rfl
@[simp] theorem State.sessionReset_actKfi (s : State) : s.sessionReset.actKfi = s.actKfi := rfl
@[simp] theorem State.sessionReset_cfgValid (s : State) : s.sessionReset.cfgValid = s.cfgValid := rfl
@[simp] theorem State.sessionReset_done (s : State) : s.sessionReset.done = false := rfl
@[simp] theorem State.sessionReset_err (s : State) : s.sessionReset.err = s.err := rfl
@[simp] theorem State.sessionReset_lastKey (s : State) : s.sessionReset.lastKey = false := rfl
@[simp] theorem State.sessionReset_prevValid (s : State) : s.sessionReset.prevValid = false := rfl
@[simp] theorem State.sessionReset_errMulti (s : State) : s.sessionReset.errMulti = s.errMulti := rfl
@[simp] theorem State.sessionReset_errCode (s : State) : s.sessionReset.errCode = s.errCode := rfl
@[simp] theorem State.sessionReset_irqEn (s : State) : s.sessionReset.irqEn = s.irqEn := rfl
@[simp] theorem State.sessionReset_frameIdx (s : State) : s.sessionReset.frameIdx = 0 := rfl
@[simp] theorem State.sessionReset_updCount (s : State) : s.sessionReset.updCount = 0 := rfl
@[simp] theorem State.sessionReset_recLen (s : State) : s.sessionReset.recLen = 0 := rfl
@[simp] theorem State.sessionReset_pixAddr (s : State) : s.sessionReset.pixAddr = s.pixAddr := rfl
@[simp] theorem State.sessionReset_canvasCap (s : State) : s.sessionReset.canvasCap = s.canvasCap := rfl
@[simp] theorem State.sessionReset_prevCap (s : State) : s.sessionReset.prevCap = s.prevCap := rfl
@[simp] theorem State.sessionReset_fifoDepth (s : State) : s.sessionReset.fifoDepth = s.fifoDepth := rfl
@[simp] theorem State.sessionReset_ofifo (s : State) : s.sessionReset.ofifo = [] := rfl
@[simp] theorem State.sessionReset_pending (s : State) : s.sessionReset.pending = s.pending := rfl
@[simp] theorem State.sessionReset_canvas (s : State) : s.sessionReset.canvas = s.canvas := rfl
@[simp] theorem State.sessionReset_prev (s : State) : s.sessionReset.prev = [] := rfl
@[simp] theorem State.sessionReset_canvasEpoch (s : State) : s.sessionReset.canvasEpoch = s.canvasEpoch := rfl
@[simp] theorem State.sessionReset_prevEpoch (s : State) : s.sessionReset.prevEpoch = s.prevEpoch + 1 := rfl
@[simp] theorem State.sessionReset_readDraws (s : State) : s.sessionReset.readDraws = s.readDraws := rfl
@[simp] theorem State.sessionReset_inputs (s : State) : s.sessionReset.inputs = s.inputs := rfl
@[simp] theorem State.sessionReset_reads (s : State) : s.sessionReset.reads = s.reads := rfl

/-! ### `State.latchConfig` -/

@[simp] theorem State.latchConfig_cfg (s : State) : s.latchConfig.cfg = s.cfg := rfl
@[simp] theorem State.latchConfig_dim (s : State) : s.latchConfig.dim = s.dim := rfl
@[simp] theorem State.latchConfig_kfi (s : State) : s.latchConfig.kfi = s.kfi := rfl
@[simp] theorem State.latchConfig_actCfg (s : State) : s.latchConfig.actCfg = s.cfg := rfl
@[simp] theorem State.latchConfig_actDim (s : State) : s.latchConfig.actDim = s.dim := rfl
@[simp] theorem State.latchConfig_actKfi (s : State) : s.latchConfig.actKfi = s.kfi := rfl
@[simp] theorem State.latchConfig_cfgValid (s : State) : s.latchConfig.cfgValid = true := rfl
@[simp] theorem State.latchConfig_done (s : State) : s.latchConfig.done = s.done := rfl
@[simp] theorem State.latchConfig_err (s : State) : s.latchConfig.err = s.err := rfl
@[simp] theorem State.latchConfig_lastKey (s : State) : s.latchConfig.lastKey = s.lastKey := rfl
@[simp] theorem State.latchConfig_prevValid (s : State) : s.latchConfig.prevValid = s.prevValid := rfl
@[simp] theorem State.latchConfig_errMulti (s : State) : s.latchConfig.errMulti = s.errMulti := rfl
@[simp] theorem State.latchConfig_errCode (s : State) : s.latchConfig.errCode = s.errCode := rfl
@[simp] theorem State.latchConfig_irqEn (s : State) : s.latchConfig.irqEn = s.irqEn := rfl
@[simp] theorem State.latchConfig_frameIdx (s : State) : s.latchConfig.frameIdx = s.frameIdx := rfl
@[simp] theorem State.latchConfig_updCount (s : State) : s.latchConfig.updCount = s.updCount := rfl
@[simp] theorem State.latchConfig_recLen (s : State) : s.latchConfig.recLen = s.recLen := rfl
@[simp] theorem State.latchConfig_pixAddr (s : State) : s.latchConfig.pixAddr = s.pixAddr := rfl
@[simp] theorem State.latchConfig_canvasCap (s : State) : s.latchConfig.canvasCap = s.canvasCap := rfl
@[simp] theorem State.latchConfig_prevCap (s : State) : s.latchConfig.prevCap = s.prevCap := rfl
@[simp] theorem State.latchConfig_fifoDepth (s : State) : s.latchConfig.fifoDepth = s.fifoDepth := rfl
@[simp] theorem State.latchConfig_ofifo (s : State) : s.latchConfig.ofifo = s.ofifo := rfl
@[simp] theorem State.latchConfig_pending (s : State) : s.latchConfig.pending = s.pending := rfl
@[simp] theorem State.latchConfig_canvas (s : State) : s.latchConfig.canvas = s.canvas := rfl
@[simp] theorem State.latchConfig_prev (s : State) : s.latchConfig.prev = s.prev := rfl
@[simp] theorem State.latchConfig_canvasEpoch (s : State) : s.latchConfig.canvasEpoch = s.canvasEpoch := rfl
@[simp] theorem State.latchConfig_prevEpoch (s : State) : s.latchConfig.prevEpoch = s.prevEpoch := rfl
@[simp] theorem State.latchConfig_readDraws (s : State) : s.latchConfig.readDraws = s.readDraws := rfl
@[simp] theorem State.latchConfig_inputs (s : State) : s.latchConfig.inputs = s.inputs := rfl
@[simp] theorem State.latchConfig_reads (s : State) : s.latchConfig.reads = s.reads := rfl

/-! ### `State.retainTiles` -/

@[simp] theorem State.retainTiles_cfg (s : State) : s.retainTiles.cfg = s.cfg := rfl
@[simp] theorem State.retainTiles_dim (s : State) : s.retainTiles.dim = s.dim := rfl
@[simp] theorem State.retainTiles_kfi (s : State) : s.retainTiles.kfi = s.kfi := rfl
@[simp] theorem State.retainTiles_actCfg (s : State) : s.retainTiles.actCfg = s.actCfg := rfl
@[simp] theorem State.retainTiles_actDim (s : State) : s.retainTiles.actDim = s.actDim := rfl
@[simp] theorem State.retainTiles_actKfi (s : State) : s.retainTiles.actKfi = s.actKfi := rfl
@[simp] theorem State.retainTiles_cfgValid (s : State) : s.retainTiles.cfgValid = s.cfgValid := rfl
@[simp] theorem State.retainTiles_done (s : State) : s.retainTiles.done = s.done := rfl
@[simp] theorem State.retainTiles_err (s : State) : s.retainTiles.err = s.err := rfl
@[simp] theorem State.retainTiles_lastKey (s : State) : s.retainTiles.lastKey = s.lastKey := rfl
@[simp] theorem State.retainTiles_prevValid (s : State) : s.retainTiles.prevValid = true := rfl
@[simp] theorem State.retainTiles_errMulti (s : State) : s.retainTiles.errMulti = s.errMulti := rfl
@[simp] theorem State.retainTiles_errCode (s : State) : s.retainTiles.errCode = s.errCode := rfl
@[simp] theorem State.retainTiles_irqEn (s : State) : s.retainTiles.irqEn = s.irqEn := rfl
@[simp] theorem State.retainTiles_frameIdx (s : State) : s.retainTiles.frameIdx = s.frameIdx := rfl
@[simp] theorem State.retainTiles_updCount (s : State) : s.retainTiles.updCount = s.updCount := rfl
@[simp] theorem State.retainTiles_recLen (s : State) : s.retainTiles.recLen = s.recLen := rfl
@[simp] theorem State.retainTiles_pixAddr (s : State) : s.retainTiles.pixAddr = s.pixAddr := rfl
@[simp] theorem State.retainTiles_canvasCap (s : State) : s.retainTiles.canvasCap = s.canvasCap := rfl
@[simp] theorem State.retainTiles_prevCap (s : State) : s.retainTiles.prevCap = s.prevCap := rfl
@[simp] theorem State.retainTiles_fifoDepth (s : State) : s.retainTiles.fifoDepth = s.fifoDepth := rfl
@[simp] theorem State.retainTiles_ofifo (s : State) : s.retainTiles.ofifo = s.ofifo := rfl
@[simp] theorem State.retainTiles_pending (s : State) : s.retainTiles.pending = s.pending := rfl
@[simp] theorem State.retainTiles_canvas (s : State) : s.retainTiles.canvas = s.canvas := rfl
@[simp] theorem State.retainTiles_prev (s : State) : s.retainTiles.prev = s.prev.writePrefix s.currentTiles := rfl
@[simp] theorem State.retainTiles_canvasEpoch (s : State) : s.retainTiles.canvasEpoch = s.canvasEpoch := rfl
@[simp] theorem State.retainTiles_prevEpoch (s : State) : s.retainTiles.prevEpoch = s.prevEpoch := rfl
@[simp] theorem State.retainTiles_readDraws (s : State) : s.retainTiles.readDraws = s.readDraws := rfl
@[simp] theorem State.retainTiles_inputs (s : State) : s.retainTiles.inputs = s.inputs := rfl
@[simp] theorem State.retainTiles_reads (s : State) : s.retainTiles.reads = s.reads := rfl

/-! ### `State.acceptFrame` -/

@[simp] theorem State.acceptFrame_cfg (s : State) : s.acceptFrame.cfg = s.cfg := rfl
@[simp] theorem State.acceptFrame_dim (s : State) : s.acceptFrame.dim = s.dim := rfl
@[simp] theorem State.acceptFrame_kfi (s : State) : s.acceptFrame.kfi = s.kfi := rfl
@[simp] theorem State.acceptFrame_actCfg (s : State) : s.acceptFrame.actCfg = s.actCfg := rfl
@[simp] theorem State.acceptFrame_actDim (s : State) : s.acceptFrame.actDim = s.actDim := rfl
@[simp] theorem State.acceptFrame_actKfi (s : State) : s.acceptFrame.actKfi = s.actKfi := rfl
@[simp] theorem State.acceptFrame_cfgValid (s : State) : s.acceptFrame.cfgValid = s.cfgValid := rfl
@[simp] theorem State.acceptFrame_done (s : State) : s.acceptFrame.done = false := rfl
@[simp] theorem State.acceptFrame_err (s : State) : s.acceptFrame.err = s.err := rfl
@[simp] theorem State.acceptFrame_lastKey (s : State) : s.acceptFrame.lastKey = s.isKey := rfl
@[simp] theorem State.acceptFrame_prevValid (s : State) : s.acceptFrame.prevValid = true := rfl
@[simp] theorem State.acceptFrame_errMulti (s : State) : s.acceptFrame.errMulti = s.errMulti := rfl
@[simp] theorem State.acceptFrame_errCode (s : State) : s.acceptFrame.errCode = s.errCode := rfl
@[simp] theorem State.acceptFrame_irqEn (s : State) : s.acceptFrame.irqEn = s.irqEn := rfl
@[simp] theorem State.acceptFrame_frameIdx (s : State) : s.acceptFrame.frameIdx = s.frameIdx + 1 := rfl
@[simp] theorem State.acceptFrame_updCount (s : State) :
    s.acceptFrame.updCount = BitVec.ofNat 16 s.updates.length := rfl
@[simp] theorem State.acceptFrame_recLen (s : State) : s.acceptFrame.recLen = BitVec.ofNat 32 s.record.length := rfl
@[simp] theorem State.acceptFrame_pixAddr (s : State) : s.acceptFrame.pixAddr = s.pixAddr := rfl
@[simp] theorem State.acceptFrame_canvasCap (s : State) : s.acceptFrame.canvasCap = s.canvasCap := rfl
@[simp] theorem State.acceptFrame_prevCap (s : State) : s.acceptFrame.prevCap = s.prevCap := rfl
@[simp] theorem State.acceptFrame_fifoDepth (s : State) : s.acceptFrame.fifoDepth = s.fifoDepth := rfl
@[simp] theorem State.acceptFrame_ofifo (s : State) : s.acceptFrame.ofifo = s.ofifo := rfl
@[simp] theorem State.acceptFrame_pending (s : State) : s.acceptFrame.pending = s.record := rfl
@[simp] theorem State.acceptFrame_canvas (s : State) : s.acceptFrame.canvas = s.canvas := rfl
@[simp] theorem State.acceptFrame_prev (s : State) : s.acceptFrame.prev = s.prev.writePrefix s.currentTiles := rfl
@[simp] theorem State.acceptFrame_canvasEpoch (s : State) : s.acceptFrame.canvasEpoch = s.canvasEpoch := rfl
@[simp] theorem State.acceptFrame_prevEpoch (s : State) : s.acceptFrame.prevEpoch = s.prevEpoch := rfl
@[simp] theorem State.acceptFrame_readDraws (s : State) : s.acceptFrame.readDraws = s.readDraws := rfl
@[simp] theorem State.acceptFrame_inputs (s : State) : s.acceptFrame.inputs = s.inputs := rfl
@[simp] theorem State.acceptFrame_reads (s : State) : s.acceptFrame.reads = s.reads := rfl

/-! ### Derived quantities -/

@[simp] theorem State.respond_busy (s : State) (off : Offset) (v : Word) : (s.respond off v).busy = s.busy := rfl
@[simp] theorem State.respond_npix (s : State) (off : Offset) (v : Word) : (s.respond off v).npix = s.npix := rfl
@[simp] theorem State.respond_canvasAt (s : State) (off : Offset) (v : Word) (i : Nat) :
    (s.respond off v).canvasAt i = s.canvasAt i := rfl
@[simp] theorem State.respond_prevByte (s : State) (off : Offset) (v : Word) (a : Nat) :
    (s.respond off v).prevByte a = s.prevByte a := rfl
@[simp] theorem State.raiseError_busy (s : State) (code : ErrCode) : (s.raiseError code).busy = s.busy := by
  simp [State.busy]
@[simp] theorem State.raiseError_npix (s : State) (code : ErrCode) : (s.raiseError code).npix = s.npix := by
  simp [State.npix]
@[simp] theorem State.raiseError_canvasAt (s : State) (code : ErrCode) (i : Nat) :
    (s.raiseError code).canvasAt i = s.canvasAt i := by
  simp [State.canvasAt]
@[simp] theorem State.raiseError_prevByte (s : State) (code : ErrCode) (a : Nat) :
    (s.raiseError code).prevByte a = s.prevByte a := by
  simp [State.prevByte]

theorem State.busy_eq_true {s : State} : s.busy = true ↔ s.pending ≠ [] := by
  simp [State.busy]

theorem State.busy_eq_false {s : State} : s.busy = false ↔ s.pending = [] := by
  simp [State.busy]

end Sys2Proof.Machine
end

