-- ==== Sys2Proof/Laws/Ops.lean ====
section
/-! SUPPORT. What each shared operation can do: the cases of the errors, the answers, the commands, the engine
and the pop, each said once. -/

namespace Sys2Proof.Machine

/-! ### Errors and answers -/

theorem State.raiseError_first {s : State} (h : s.err = false) (code : ErrCode) :
    s.raiseError code = { s with err := true, errCode := code } := by
  simp [State.raiseError, h]

theorem State.raiseError_further {s : State} (h : s.err = true) (code : ErrCode) :
    s.raiseError code = { s with errMulti := true } := by
  simp [State.raiseError, h]

theorem State.respondUnlessBusy_idle {s : State} (h : s.busy = false) (off : Offset) (v : Word) (f : Nat → Word) :
    s.respondUnlessBusy off v f = s.respond off v := by
  simp [State.respondUnlessBusy, h]

theorem State.respondUnlessBusy_busy {s : State} (h : s.busy = true) (off : Offset) (v : Word) (f : Nat → Word) :
    s.respondUnlessBusy off v f = { s with readDraws := s.readDraws + 1 }.respond off (f s.readDraws) := by
  simp [State.respondUnlessBusy, h]

/-! ### The engine -/

/-- The engine's turn: nothing, or the next byte of the record goes into the FIFO. -/
theorem State.engineTurn_cases (s : State) :
    (s.engineEnabled = false ∧ s.engineTurn = s) ∨
    (∃ b rest, s.pending = b :: rest ∧ s.ofifo.length < s.fifoDepth.toNat ∧
      s.engineTurn = { s with
        pending := rest, ofifo := s.ofifo ++ [b], done := if rest = [] then true else s.done }) := by
  rcases h : s.engineEnabled with - | -
  · exact .inl ⟨rfl, by simp [State.engineTurn, h]⟩
  · rcases hp : s.pending with - | ⟨b, rest⟩
    · simp [State.engineEnabled, State.busy, hp] at h
    · refine .inr ⟨b, rest, rfl, ?_, ?_⟩
      · simpa [State.engineEnabled, State.busy, hp] using h
      · simp [State.engineTurn, h, State.engineStep, hp]

/-- When the engine's step is enabled. -/
theorem State.engineEnabled_iff (s : State) :
    s.engineEnabled = true ↔ s.pending ≠ [] ∧ s.ofifo.length < s.fifoDepth.toNat := by
  simp [State.engineEnabled, State.busy]

/-! ### Commands -/

theorem State.cmdInit_cases (s : State) :
    (s.busy = true ∧ s.cmdInit = s.raiseError .eBusy) ∨
    (s.busy = false ∧ s.stagedCheck = .eNone ∧ s.cmdInit = s.sessionReset.latchConfig) ∨
    (s.busy = false ∧ s.stagedCheck ≠ .eNone ∧
      s.cmdInit = { s.sessionReset with cfgValid := false }.raiseError s.stagedCheck) := by
  unfold State.cmdInit
  rcases hb : s.busy with - | -
  · by_cases hc : s.stagedCheck = .eNone <;> simp [hc]
  · simp

theorem State.cmdEncode_cases (s : State) :
    (s.busy = true ∧ s.cmdEncode = s.raiseError .eBusy) ∨
    (s.busy = false ∧ s.cfgValid = false ∧ s.cmdEncode = s.raiseError .eNotCfg) ∨
    (s.busy = false ∧ s.cfgValid = true ∧ s.cmdEncode = s.acceptFrame) := by
  unfold State.cmdEncode
  rcases hb : s.busy with - | - <;> rcases hv : s.cfgValid with - | - <;> simp

theorem State.popOutput_cases (s : State) :
    (s.ofifo = [] ∧ s.popOutput = s.respond Reg.outData.offset 0) ∨
    (∃ b rest, s.ofifo = b :: rest ∧
      s.popOutput = { s with ofifo := rest }.respond Reg.outData.offset (outDataWord b)) := by
  rcases h : s.ofifo with - | ⟨b, rest⟩
  · exact .inl ⟨rfl, by simp [State.popOutput, h]⟩
  · exact .inr ⟨b, rest, rfl, by simp [State.popOutput, h]⟩

end Sys2Proof.Machine
end

