-- ==== Sys2Proof/Laws/PerInstr.lean ====
section
/-! SUPPORT. The per-instruction families of LAWS.json: one lemma for each constructor of `Instr`. -/

namespace Sys2Proof.Laws

/-- Decoding what the encoder writes for the instruction gives the instruction back. -/
def RoundTrip.Statement (i : Instr) : Prop :=
  decode (encode i) = .instr i

theorem RoundTrip.rdId : RoundTrip.Statement .rdId := decodeTxn_read .id

theorem RoundTrip.wrId (d : Word) : RoundTrip.Statement (.wrId d) :=
  decodeTxn_write .id d

theorem RoundTrip.rdCfg : RoundTrip.Statement .rdCfg := decodeTxn_read .cfg

theorem RoundTrip.wrCfg (d : Word) : RoundTrip.Statement (.wrCfg d) :=
  decodeTxn_write .cfg d

theorem RoundTrip.rdDim : RoundTrip.Statement .rdDim := decodeTxn_read .dim

theorem RoundTrip.wrDim (d : Word) : RoundTrip.Statement (.wrDim d) :=
  decodeTxn_write .dim d

theorem RoundTrip.rdKfi : RoundTrip.Statement .rdKfi := decodeTxn_read .kfi

theorem RoundTrip.wrKfi (d : Word) : RoundTrip.Statement (.wrKfi d) :=
  decodeTxn_write .kfi d

theorem RoundTrip.rdCmd : RoundTrip.Statement .rdCmd := decodeTxn_read .cmd

theorem RoundTrip.wrCmd (d : Word) : RoundTrip.Statement (.wrCmd d) :=
  decodeTxn_write .cmd d

theorem RoundTrip.rdStatus : RoundTrip.Statement .rdStatus := decodeTxn_read .status

theorem RoundTrip.wrStatus (d : Word) : RoundTrip.Statement (.wrStatus d) :=
  decodeTxn_write .status d

theorem RoundTrip.rdIrqEn : RoundTrip.Statement .rdIrqEn := decodeTxn_read .irqEn

theorem RoundTrip.wrIrqEn (d : Word) : RoundTrip.Statement (.wrIrqEn d) :=
  decodeTxn_write .irqEn d

theorem RoundTrip.rdFrameIdx : RoundTrip.Statement .rdFrameIdx := decodeTxn_read .frameIdx

theorem RoundTrip.wrFrameIdx (d : Word) : RoundTrip.Statement (.wrFrameIdx d) :=
  decodeTxn_write .frameIdx d

theorem RoundTrip.rdUpdCount : RoundTrip.Statement .rdUpdCount := decodeTxn_read .updCount

theorem RoundTrip.wrUpdCount (d : Word) : RoundTrip.Statement (.wrUpdCount d) :=
  decodeTxn_write .updCount d

theorem RoundTrip.rdRecLen : RoundTrip.Statement .rdRecLen := decodeTxn_read .recLen

theorem RoundTrip.wrRecLen (d : Word) : RoundTrip.Statement (.wrRecLen d) :=
  decodeTxn_write .recLen d

theorem RoundTrip.rdOutData : RoundTrip.Statement .rdOutData := decodeTxn_read .outData

theorem RoundTrip.wrOutData (d : Word) : RoundTrip.Statement (.wrOutData d) :=
  decodeTxn_write .outData d

theorem RoundTrip.rdOutLevel : RoundTrip.Statement .rdOutLevel := decodeTxn_read .outLevel

theorem RoundTrip.wrOutLevel (d : Word) : RoundTrip.Statement (.wrOutLevel d) :=
  decodeTxn_write .outLevel d

theorem RoundTrip.rdPixAddr : RoundTrip.Statement .rdPixAddr := decodeTxn_read .pixAddr

theorem RoundTrip.wrPixAddr (d : Word) : RoundTrip.Statement (.wrPixAddr d) :=
  decodeTxn_write .pixAddr d

theorem RoundTrip.rdPixData : RoundTrip.Statement .rdPixData := decodeTxn_read .pixData

theorem RoundTrip.wrPixData (d : Word) : RoundTrip.Statement (.wrPixData d) :=
  decodeTxn_write .pixData d

theorem RoundTrip.rdActCfg : RoundTrip.Statement .rdActCfg := decodeTxn_read .actCfg

theorem RoundTrip.wrActCfg (d : Word) : RoundTrip.Statement (.wrActCfg d) :=
  decodeTxn_write .actCfg d

theorem RoundTrip.rdActDim : RoundTrip.Statement .rdActDim := decodeTxn_read .actDim

theorem RoundTrip.wrActDim (d : Word) : RoundTrip.Statement (.wrActDim d) :=
  decodeTxn_write .actDim d

theorem RoundTrip.rdActKfi : RoundTrip.Statement .rdActKfi := decodeTxn_read .actKfi

theorem RoundTrip.wrActKfi (d : Word) : RoundTrip.Statement (.wrActKfi d) :=
  decodeTxn_write .actKfi d

theorem RoundTrip.rdTiles : RoundTrip.Statement .rdTiles := decodeTxn_read .tiles

theorem RoundTrip.wrTiles (d : Word) : RoundTrip.Statement (.wrTiles d) :=
  decodeTxn_write .tiles d

theorem RoundTrip.rdTileBytes : RoundTrip.Statement .rdTileBytes := decodeTxn_read .tileBytes

theorem RoundTrip.wrTileBytes (d : Word) : RoundTrip.Statement (.wrTileBytes d) :=
  decodeTxn_write .tileBytes d

theorem RoundTrip.rdTileCount : RoundTrip.Statement .rdTileCount := decodeTxn_read .tileCount

theorem RoundTrip.wrTileCount (d : Word) : RoundTrip.Statement (.wrTileCount d) :=
  decodeTxn_write .tileCount d

theorem RoundTrip.rdCanvasCap : RoundTrip.Statement .rdCanvasCap := decodeTxn_read .canvasCap

theorem RoundTrip.wrCanvasCap (d : Word) : RoundTrip.Statement (.wrCanvasCap d) :=
  decodeTxn_write .canvasCap d

theorem RoundTrip.rdPrevCap : RoundTrip.Statement .rdPrevCap := decodeTxn_read .prevCap

theorem RoundTrip.wrPrevCap (d : Word) : RoundTrip.Statement (.wrPrevCap d) :=
  decodeTxn_write .prevCap d

theorem RoundTrip.rdFifoDepth : RoundTrip.Statement .rdFifoDepth := decodeTxn_read .fifoDepth

theorem RoundTrip.wrFifoDepth (d : Word) : RoundTrip.Statement (.wrFifoDepth d) :=
  decodeTxn_write .fifoDepth d

theorem RoundTrip.nop : RoundTrip.Statement .nop := rfl

theorem RoundTrip.init : RoundTrip.Statement .init := rfl

theorem RoundTrip.encode : RoundTrip.Statement .encode := rfl

end Sys2Proof.Laws
end

