-- ==== Sys2Proof/Laws/Step.lean ====
section
/-! SUPPORT. What a step does, by its next input: one lemma for each kind of input, and for a host transaction one
for each way its code decodes. -/

namespace Sys2Proof.Machine

theorem step_idle {s : State} (h : s.inputs = []) : step s = .next s.engineTurn := by
  simp [step, h]

theorem step_host {s : State} {t : Txn} {rest : List Event} (h : s.inputs = .host t :: rest) :
    step s = hostTransaction t { s with inputs := rest } := by
  simp [step, h]

theorem step_engine {s : State} {rest : List Event} (h : s.inputs = .engine :: rest) :
    step s = .next { s with inputs := rest }.engineTurn := by
  simp [step, h]

theorem step_reset {s : State} {rest : List Event} (h : s.inputs = .reset :: rest) :
    step s = .next { s with inputs := rest }.hardReset := by
  simp [step, h]

theorem hostTransaction_read (r : Reg) (s : State) : hostTransaction (.read r.offset) s = exec r.readInstr s := by
  unfold hostTransaction
  rw [Laws.decodeTxn_read]

theorem hostTransaction_write (r : Reg) (d : Word) (s : State) :
    hostTransaction (.write r.offset d) s = exec (r.writeInstr d) s := by
  unfold hostTransaction
  rw [Laws.decodeTxn_write]

/-- A transaction is the read or the write of a register, or its offset is no register's. -/
theorem Txn.cases (t : Txn) :
    (∃ r : Reg, t = .read r.offset) ∨ (∃ (r : Reg) (d : Word), t = .write r.offset d) ∨
      ∀ r : Reg, t.off ≠ r.offset := by
  by_cases h : ∃ r : Reg, t.off = r.offset
  · obtain ⟨r, hr⟩ := h
    cases t with
    | read off => exact .inl ⟨r, by rw [show off = r.offset from hr]⟩
    | write off d => exact .inr (.inl ⟨r, d, by rw [show off = r.offset from hr]⟩)
  · exact .inr (.inr fun r hr => h ⟨r, hr⟩)

/-- An offset that is no register's makes an unmapped access. -/
theorem hostTransaction_unmapped {t : Txn} (h : ∀ r : Reg, t.off ≠ r.offset) (s : State) :
    hostTransaction t s = .next (s.unmappedAccess t) := by
  have hrow : busRow t.code = none := by
    cases t with
    | read off => exact Laws.busRow_none h
    | write off d => exact Laws.busRow_none h
  unfold hostTransaction decodeTxn
  simp [hrow]

end Sys2Proof.Machine
end

