-- ==== Sys2Proof/Tests/Slice0.lean ====
section
/-! SUPPORT. Tests: the checks on ill-formed terms, every row's word decoded, one step at a time on small states with
the results that the spec's own vectors give (95_test_vectors.md), and a witness for the hypotheses of each
statement. -/

namespace Sys2Proof.Tests

-- One theorem at a time: side by side, the stacks of their threads exceed the memory limit.
set_option Elab.async false

open Sys2Proof Sys2Proof.Machine Host.Outcome

/-! ### Ill-formed terms are refused -/

theorem test_wf_offset : (HostLine.rdRaw 4096).wf = false ∧ (HostLine.wrRaw 4096 0).wf = false ∧
    (HostLine.rdRaw 4095).wf = true := by decide

theorem test_wf_literal : (HostLine.wr .cfg 4294967296).wf = false ∧ (HostLine.wrRaw 0 4294967296).wf = false ∧
    (HostLine.pix 4294967296).wf = false ∧ (HostLine.pix 4294967295).wf = true := by decide

theorem test_wf_channel : (HostLine.rgb 256 0 0).wf = false ∧ (HostLine.rgb 0 256 0).wf = false ∧
    (HostLine.rgb 0 0 256).wf = false ∧ (HostLine.rgb 255 255 255).wf = true := by decide

/-- The bounds of 00_scope.md R5. -/
theorem test_wf_parameters : parametersWf 63 128 1 = false ∧ parametersWf 64 127 1 = false ∧
    parametersWf 64 128 0 = false ∧ parametersWf 64 128 1 = true := by decide

/-! ### Decoding: every row's word, written out from 30_encoding.md R80, R82 and R90 -/

/-- What a transaction code decodes to. -/
def decodes (tc : TxnCode) (data : Word) (i : Instr) : Bool := decode (.bus (Txn.ofCode tc data)) = .instr i

/-- `W = 0`: the code is the offset. The first two are written bit by bit: `0 000000000000`, `0 000000000100`. -/
theorem test_decode_reads :
    decodes 0b0000000000000 0 .rdId ∧ decodes 0b0000000000100 0 .rdCfg ∧ decodes 0x0008 0 .rdDim ∧
    decodes 0x000C 0 .rdKfi ∧ decodes 0x0010 0 .rdCmd ∧ decodes 0x0014 0 .rdStatus ∧ decodes 0x0018 0 .rdIrqEn ∧
    decodes 0x001C 0 .rdFrameIdx ∧ decodes 0x0020 0 .rdUpdCount ∧ decodes 0x0024 0 .rdRecLen ∧
    decodes 0x0028 0 .rdOutData ∧ decodes 0x002C 0 .rdOutLevel ∧ decodes 0x0030 0 .rdPixAddr ∧
    decodes 0x0034 0 .rdPixData ∧ decodes 0x0038 0 .rdActCfg ∧ decodes 0x003C 0 .rdActDim ∧
    decodes 0x0040 0 .rdActKfi ∧ decodes 0x0044 0 .rdTiles ∧ decodes 0x0048 0 .rdTileBytes ∧
    decodes 0x004C 0 .rdTileCount ∧ decodes 0x0050 0 .rdCanvasCap ∧ decodes 0x0054 0 .rdPrevCap ∧
    decodes 0x0058 0 .rdFifoDepth := by decide

/-- `W = 1`: bit 12 is set, and the data word is the operand, bit for bit. -/
theorem test_decode_writes :
    decodes 0b1000000000000 0x89ABCDEF (.wrId 0x89ABCDEF) ∧ decodes 0b1000000000100 0x89ABCDEF (.wrCfg 0x89ABCDEF) ∧
    decodes 0x1008 0x89ABCDEF (.wrDim 0x89ABCDEF) ∧ decodes 0x100C 0x89ABCDEF (.wrKfi 0x89ABCDEF) ∧
    decodes 0x1010 0x89ABCDEF (.wrCmd 0x89ABCDEF) ∧ decodes 0x1014 0x89ABCDEF (.wrStatus 0x89ABCDEF) ∧
    decodes 0x1018 0x89ABCDEF (.wrIrqEn 0x89ABCDEF) ∧ decodes 0x101C 0x89ABCDEF (.wrFrameIdx 0x89ABCDEF) ∧
    decodes 0x1020 0x89ABCDEF (.wrUpdCount 0x89ABCDEF) ∧ decodes 0x1024 0x89ABCDEF (.wrRecLen 0x89ABCDEF) ∧
    decodes 0x1028 0x89ABCDEF (.wrOutData 0x89ABCDEF) ∧ decodes 0x102C 0x89ABCDEF (.wrOutLevel 0x89ABCDEF) ∧
    decodes 0x1030 0x89ABCDEF (.wrPixAddr 0x89ABCDEF) ∧ decodes 0x1034 0x89ABCDEF (.wrPixData 0x89ABCDEF) ∧
    decodes 0x1038 0x89ABCDEF (.wrActCfg 0x89ABCDEF) ∧ decodes 0x103C 0x89ABCDEF (.wrActDim 0x89ABCDEF) ∧
    decodes 0x1040 0x89ABCDEF (.wrActKfi 0x89ABCDEF) ∧ decodes 0x1044 0x89ABCDEF (.wrTiles 0x89ABCDEF) ∧
    decodes 0x1048 0x89ABCDEF (.wrTileBytes 0x89ABCDEF) ∧ decodes 0x104C 0x89ABCDEF (.wrTileCount 0x89ABCDEF) ∧
    decodes 0x1050 0x89ABCDEF (.wrCanvasCap 0x89ABCDEF) ∧ decodes 0x1054 0x89ABCDEF (.wrPrevCap 0x89ABCDEF) ∧
    decodes 0x1058 0x89ABCDEF (.wrFifoDepth 0x89ABCDEF) := by decide

/-- The command words of R90, and reserved ones (R91). -/
theorem test_decode_commands :
    decode (.cmd 0x00000000) = .instr .nop ∧ decode (.cmd 0x00000001) = .instr .init ∧
    decode (.cmd 0x00000002) = .instr .encode ∧ decode (.cmd 0x00000003) = .reject .reservedCommand ∧
    decode (.cmd 0x00000103) = .reject .reservedCommand ∧ decode (.cmd 0x80000001) = .reject .reservedCommand := by
  decide

/-- Reserved offsets (R84), at the ends of their ranges. -/
theorem test_decode_reserved_offsets :
    decodeTxn (.read 0x05C) = .reject .unmappedOffset ∧ decodeTxn (.write 0xFFC 1) = .reject .unmappedOffset ∧
    decodeTxn (.read 0x001) = .reject .misalignedOffset ∧ decodeTxn (.read 0x006) = .reject .misalignedOffset ∧
    decodeTxn (.write 0x05A 0) = .reject .misalignedOffset ∧ decodeTxn (.read 0xFFF) = .reject .misalignedOffset := by
  decide

/-- The words of the opcode table, as the host gives them. -/
theorem test_decode_table_words :
    decodeTableWord 13 0x1034 = some (.wrPixData 0) ∧ decodeTableWord 16 0x0058 = some .rdFifoDepth ∧
    decodeTableWord 16 0x2000 = none ∧ decodeTableWord 32 2 = some .encode ∧ decodeTableWord 32 3 = none := by decide

/-! ### Small states -/

/-- The checkerboard of 95_test_vectors.md P1, on an 8x8 canvas. -/
def checkerboard : Memory 9 := (List.range 64).map fun i => (i, BitVec.ofNat 9 ((i / 8 + i % 8) % 2))

/-- A session of P1: 8x8, IDX1, skip-RLE, `K = 0`, with every pixel written and no frame encoded. -/
def ready : State :=
  { State.reset with
    cfg := ⟨1, false, false⟩, dim := ⟨8, 8⟩
    actCfg := ⟨1, false, false⟩, actDim := ⟨8, 8⟩, cfgValid := true, canvas := checkerboard }

/-- The record of P1. -/
def recordP1 : List Byte := [0x01, 0x01, 0x00, 0x00, 0x55, 0xAA, 0x55, 0xAA, 0x55, 0xAA, 0x55, 0xAA]

/-- `ready` with its first frame accepted and no byte pushed yet. -/
def busy : State := ready.acceptFrame

/-- `busy` once all is pushed and popped. -/
def drained : State := { busy with pending := [], done := true }

/-- A block that is not configured and has captured `E_NOT_CFG`. -/
def failed : State := { State.reset with err := true, errCode := .eNotCfg }

/-- The state after one instruction. -/
def after (i : Instr) (s : State) : State :=
  match exec i s with
  | .next t => t
  | .fault _ => s
  | .refused _ => s

/-- The value that a read instruction brings to the host. -/
def answer (i : Instr) (s : State) : Option Word := (after i s).reads.getLast?.map BusRead.value

/-- The `STATUS` word of a state. -/
def status (s : State) : Word := s.statusWord s.prevValid s.lastKey

/-! ### One step at a time: the vectors of 95_test_vectors.md -/

/-- L2.1. -/
theorem test_quantize_rgb332 :
    quantizeRgb332 0x00FFFFFF = 0xFF ∧ quantizeRgb332 0x001FDF40 = 0x70 ∧ quantizeRgb332 0x0000003F = 0x00 ∧
    quantizeRgb332 0x00FF0000 = 0x07 ∧ quantizeRgb332 0x0000FF00 = 0x38 ∧ quantizeRgb332 0xFFE0E0C0 = 0xFF ∧
    quantizeRgb332 0x00808080 = 0xA4 := by decide

/-- L2.1. -/
theorem test_quantize_rgb333 :
    quantizeRgb333 0x00FFFFFF = 0x1FF ∧ quantizeRgb333 0x001FDF40 = 0x0B0 ∧ quantizeRgb333 0x0000003F = 0x040 ∧
    quantizeRgb333 0x00FF0000 = 0x007 ∧ quantizeRgb333 0x00000080 = 0x100 ∧ quantizeRgb333 0xFFE0E0C0 = 0x1BF ∧
    quantizeRgb333 0x00808080 = 0x124 := by decide

/-- L2.1. -/
theorem test_quantize_indexed : quantizeIndexed 0x000000A5 = 0x0A5 ∧ quantizeIndexed 0xFFFFFF03 = 0x003 := by decide

/-- L2.2: the last pixel, and the one after it. -/
theorem test_wrPixData_last :
    (after (.wrPixData 1) { ready with pixAddr := 63, canvas := [] }).canvas = [(63, 1)] ∧
    (after (.wrPixData 1) { ready with pixAddr := 63 }).pixAddr = 64 ∧
    after (.wrPixData 1) { ready with pixAddr := 64 } =
      { ready with pixAddr := 64, err := true, errCode := .ePixRange } := by decide +kernel

/-- L2.2: the errors in the order of their priority. -/
theorem test_wrPixData_refused :
    (after (.wrPixData 0) State.reset).errCode = .eNotCfg ∧ (after (.wrPixData 0) State.reset).canvas = [] ∧
    (after (.wrPixData 0) { busy with cfgValid := false }).errCode = .eBusy := by decide +kernel

/-- L2.2. -/
theorem test_rdPixData :
    answer .rdPixData { busy with pixAddr := 9 } = some 0 ∧ answer .rdPixData { busy with pixAddr := 8 } = some 1 ∧
    (after .rdPixData { busy with pixAddr := 8 }).err = false ∧ answer .rdPixData { ready with pixAddr := 64 } = some 0 ∧
    (after .rdPixData { ready with pixAddr := 64 }).errCode = .ePixRange := by decide +kernel

/-- L2.2. -/
theorem test_pixAddr : answer .rdPixAddr (after (.wrPixAddr 0xFFFFFFFF) busy) = some 0xFFFFFFFF ∧
    (after (.wrPixAddr 0xFFFFFFFF) busy).err = false := by decide +kernel

/-- L2.3: column 0, the last pixel, an index that is too wide, and the checkerboard. -/
theorem test_pack_idx1 :
    packIndexed 1 (fun p => if p % 8 = 0 then 1 else 0) = List.replicate 8 0x80 ∧
    packIndexed 1 (fun p => if p = 63 then 1 else 0) = List.replicate 7 0x00 ++ [0x01] ∧
    packIndexed 1 (fun _ => 0xFE) = List.replicate 8 0x00 ∧ ready.packTile 0 = recordP1.drop 4 := by decide +kernel

/-- L2.3. -/
theorem test_pack_idx2_idx4 :
    packIndexed 2 (fun p => BitVec.ofNat 9 (p % 4)) = List.replicate 16 0x1B ∧
    packIndexed 4 (fun p => if p = 0 then 0x1F else 0) = 0xF0 :: List.replicate 31 0x00 := by decide +kernel

/-- L2.3. -/
theorem test_pack_direct :
    Mode.rgb333.pack (fun p => if p = 0 then 0x1FF else 0) = [0xFF, 0x01] ++ List.replicate 126 0x00 ∧
    Mode.rgb333.pack (fun p => if p = 0 then 0x100 else 0) = [0x00, 0x01] ++ List.replicate 126 0x00 ∧
    Mode.rgb332.pack (fun p => BitVec.ofNat 9 p) = (List.range 64).map (BitVec.ofNat 8) ∧
    Mode.idx8.pack (fun p => BitVec.ofNat 9 p) = (List.range 64).map (BitVec.ofNat 8) := by decide +kernel

/-- L2.3: the visit order on a 16x16 canvas. -/
theorem test_tile_pixels : (DimReg.mk 16 16).tilePixel 3 0 = 136 ∧ (DimReg.mk 16 16).tilePixel 3 9 = 153 := by decide

/-- L2.4, rows K = 0 and K = 3. -/
theorem test_keyframes :
    ({ drained with frameIdx := 0 }).isKey = false ∧ ({ drained with prevValid := false }).isKey = true ∧
    ({ drained with actKfi := 3, frameIdx := 6 }).isKey = true ∧
    ({ drained with actKfi := 3, frameIdx := 5 }).isKey = false := by decide +kernel

/-- L2.5. -/
theorem test_skipBytes :
    skipBytes 0 = [0x00] ∧ skipBytes 254 = [0xFE] ∧ skipBytes 255 = [0xFF, 0x00] ∧ skipBytes 256 = [0xFF, 0x01] ∧
    skipBytes 509 = [0xFF, 0xFE] ∧ skipBytes 510 = [0xFF, 0xFF, 0x00] := by decide

/-- L2.5: gaps count from the tile after the last update. -/
theorem test_skipEncode :
    skipEncode [2, 3, 4] (fun t => [BitVec.ofNat 8 t]) = [0x02, 2, 0x00, 3, 0x00, 4] ∧
    skipEncode [0, 255] (fun t => [BitVec.ofNat 8 t]) = [0x00, 0, 0xFE, 255] ∧
    skipEncode [0, 1, 512] (fun _ => [7]) = [0x00, 7, 0x00, 7, 0xFF, 0xFF, 0x00, 7] := by decide +kernel

/-- L2.6: the flat form, and the records without an update. -/
theorem test_records :
    recordFlat [0, 258] (fun _ => [7]) = [0x02, 0x00, 0x00, 0x00, 7, 0x02, 0x01, 7] ∧ recordFlat [] (fun _ => []) = [0, 0] ∧
    recordSkip false [] (fun _ => []) = [0, 0, 0] := by decide

/-- L2.7: the INIT example. -/
theorem test_init_success :
    let s := after .init { State.reset with cfg := ⟨1, false, false⟩, dim := ⟨16, 16⟩ }
    status s = 0x00000002 ∧ answer .rdTileCount s = some 4 ∧ answer .rdTileBytes s = some 8 ∧
      answer .rdTiles s = some 0x00020002 := by decide +kernel

/-- L2.7: an INIT that fails clears `CFG_VALID` and keeps the active configuration; one that is refused changes
nothing else. -/
theorem test_init_failures :
    (after .init { ready with cfg := ⟨3, false, false⟩, dim := ⟨16, 12⟩ }).errCode = .eCfgBpp ∧
    (after .init { ready with cfg := ⟨3, false, false⟩ }).cfgValid = false ∧
    (after .init { ready with cfg := ⟨3, false, false⟩ }).actCfg = ⟨1, false, false⟩ ∧
    after .init busy = { busy with err := true, errCode := .eBusy } := by decide +kernel

/-- L2.7 and P6: each check of R214, with `CANVAS_CAP = 4096`. -/
theorem test_cfgCheck :
    cfgCheck ⟨1, true, false⟩ ⟨8, 8⟩ 4096 4096 = .eCfgBpp ∧ cfgCheck ⟨9, false, false⟩ ⟨8, 8⟩ 4096 4096 = .eCfgBpp ∧
    cfgCheck ⟨1, false, false⟩ ⟨16, 12⟩ 4096 4096 = .eCfgDim ∧ cfgCheck ⟨1, false, false⟩ ⟨0, 8⟩ 4096 4096 = .eCfgDim ∧
    cfgCheck ⟨1, false, false⟩ ⟨2056, 2048⟩ 4096 4096 = .eCfgTiles ∧
    cfgCheck ⟨1, false, false⟩ ⟨128, 128⟩ 4096 4096 = .eCfgCap ∧ cfgCheck ⟨1, false, false⟩ ⟨64, 64⟩ 4096 512 = .eNone ∧
    cfgCheck ⟨1, false, false⟩ ⟨64, 64⟩ 4096 511 = .eCfgCap := by decide +kernel

/-- P1: the record of the accepted frame and what the session registers hold. -/
theorem test_encode_accepted :
    (after .encode ready).pending = recordP1 ∧ (after .encode ready).recLen = 12 ∧ (after .encode ready).updCount = 1 ∧
    (after .encode ready).frameIdx = 1 ∧ (after .encode ready).lastKey = true ∧
    status (after .encode ready) &&& 0xFFFFFFCF = 0x00000003 := by decide +kernel

/-- P2, frame 2: the same frame again gives `00 00 00`. L2.7: a refused ENCODE. -/
theorem test_encode_again_and_refused :
    (after .encode drained).pending = [0x00, 0x00, 0x00] ∧ (after .encode drained).frameIdx = 2 ∧
    after .encode State.reset = failed ∧ (after .encode busy).errCode = .eBusy := by decide +kernel

/-- L2.7: reserved words are decoded before the state is looked at; `NOP` does nothing. -/
theorem test_commands :
    (after (.wrCmd 0x103) busy).errCode = .eBadCmd ∧ after (.wrCmd 0) busy = busy ∧ after .nop busy = busy ∧
    after (.wrCmd 2) ready = busy := by decide +kernel

/-- R218: a push, and the last push. -/
theorem test_engine :
    busy.engineTurn.ofifo = [0x01] ∧ busy.engineTurn.pending = recordP1.drop 1 ∧ busy.engineTurn.done = false ∧
    ({ busy with pending := [0xAA] }).engineTurn.done = true ∧
    ({ busy with ofifo := [1, 2, 3, 4] }).engineTurn = { busy with ofifo := [1, 2, 3, 4] } := by decide +kernel

/-- L2.8: `OUT_DATA` and `OUT_LEVEL`. -/
theorem test_output :
    answer .rdOutData drained = some 0x00000000 ∧ answer .rdOutData { drained with ofifo := [0x00, 0x01] } = some 0x100 ∧
    (after .rdOutData { drained with ofifo := [0x00, 0x01] }).ofifo = [0x01] ∧
    answer .rdOutLevel { drained with ofifo := [0x00, 0x01] } = some 2 ∧
    (after (.wrOutData 0x55) ready).ofifo = [] := by decide +kernel

/-- P1: the end state, and `clr DONE`. L2.8: a `STATUS` write with bits 2 and 3 clear. -/
theorem test_status :
    answer .rdStatus drained = some 0x00000036 ∧ answer .rdStatus (after (.wrStatus 4) drained) = some 0x00000032 ∧
    after (.wrStatus 0xFFFFFFF3) { drained with err := true } = { drained with err := true } := by decide +kernel

/-- P6: the first error's code stays; `clr ERR` clears the capture. -/
theorem test_errors :
    status failed = 0x00000508 ∧ status (after (.wrCmd 0x103) failed) = 0x00000548 ∧
    status (after (.wrStatus 8) (after (.wrCmd 0x103) failed)) = 0x00000000 := by decide

/-- P1: `irq = 1` after the record, and 0 once `DONE` is cleared or its enable is. -/
theorem test_irq :
    ({ drained with irqEn := ⟨true, false⟩ }).irq = true ∧ ({ drained with irqEn := ⟨false, true⟩ }).irq = false ∧
    (after (.wrStatus 4) { drained with irqEn := ⟨true, false⟩ }).irq = false ∧
    ({ failed with irqEn := ⟨false, true⟩ }).irq = true := by decide +kernel

/-- L2.8: written and read back. -/
theorem test_registers_written :
    answer .rdCfg (after (.wrCfg 0xFFFFFF29) ready) = some 0x00000029 ∧
    answer .rdDim (after (.wrDim 0x00100008) ready) = some 0x00100008 ∧
    answer .rdKfi (after (.wrKfi 0x00010003) ready) = some 0x00000003 ∧
    answer .rdIrqEn (after (.wrIrqEn 0xFFFFFFFF) ready) = some 0x00000003 ∧
    (after (.wrCfg 0xFFFFFF29) ready).actCfg = ⟨1, false, false⟩ := by decide +kernel

/-- L2.8 and P1: the registers that are only read. -/
theorem test_registers_read :
    answer .rdId ready = some 0x46324801 ∧ answer .rdCmd ready = some 0 ∧ answer .rdFrameIdx drained = some 1 ∧
    answer .rdUpdCount drained = some 1 ∧ answer .rdRecLen drained = some 12 ∧
    answer .rdActCfg { ready with actCfg := ⟨9, true, true⟩ } = some 0x00000039 ∧
    answer .rdActDim { ready with actDim := ⟨8, 16⟩ } = some 0x00100008 ∧
    answer .rdActKfi { ready with actKfi := 2 } = some 2 ∧
    answer .rdTiles { ready with actDim := ⟨8, 16⟩ } = some 0x00020001 ∧
    answer .rdTileBytes { ready with actCfg := ⟨9, true, true⟩ } = some 128 ∧
    answer .rdTileCount { ready with actDim := ⟨2048, 8⟩ } = some 256 := by decide +kernel

/-- R254. -/
theorem test_capabilities :
    answer .rdCanvasCap { ready with canvasCap := 77 } = some 77 ∧ answer .rdPrevCap { ready with prevCap := 129 } = some 129 ∧
    answer .rdFifoDepth { ready with fifoDepth := 5 } = some 5 := by decide +kernel

/-- R255: no write of a read-only register does anything. -/
theorem test_read_only_registers :
    after (.wrId 7) drained = drained ∧ after (.wrFrameIdx 7) drained = drained ∧ after (.wrUpdCount 7) drained = drained ∧
    after (.wrRecLen 7) drained = drained ∧ after (.wrOutLevel 7) drained = drained ∧
    after (.wrActCfg 7) drained = drained ∧ after (.wrActDim 7) drained = drained ∧
    after (.wrActKfi 7) drained = drained ∧ after (.wrTiles 7) drained = drained ∧
    after (.wrTileBytes 7) drained = drained ∧ after (.wrTileCount 7) drained = drained ∧
    after (.wrCanvasCap 7) drained = drained ∧ after (.wrPrevCap 7) drained = drained ∧
    after (.wrFifoDepth 7) drained = drained := by decide +kernel

/-- L2.8: unmapped accesses, as steps. -/
theorem test_step_unmapped :
    (ready.withTransaction (.read 0x05C)).after = { ready with err := true, errCode := .eBadAddr, reads := [⟨0x05C, 0⟩] } ∧
    (failed.withTransaction (.read 0x006)).after = { failed with errMulti := true, reads := [⟨0x006, 0⟩] } ∧
    (ready.withTransaction (.write 0xFFC 1)).after = { ready with err := true, errCode := .eBadAddr } := by
  decide +kernel

/-- The first step from `State.reset` runs the word that is placed. -/
theorem test_step_fetched_words :
    ((State.reset.withFetchWord 16 0x0000).after).reads = [⟨0x000, 0x46324801⟩] ∧
    ((State.reset.withFetchWord 16 0x1010).after) = State.reset ∧
    ((State.reset.withFetchWord 32 0x00000001).after).errCode = .eCfgBpp ∧
    ((State.reset.withFetchWord 32 0x00000002).after) = failed := by decide

/-- R300: reset in the middle of a record. -/
theorem test_step_reset :
    ({ busy with inputs := [.reset], irqEn := ⟨true, true⟩ }).after =
      { State.reset with canvasEpoch := 1, prevEpoch := busy.prevEpoch + 1 } := by decide +kernel

/-- R98: `wait_idle` goes on while bit 0 reads 1, popping while there is output. -/
theorem test_wait_idle :
    waitIdleNext none = some (.read 0x014) ∧ waitIdleNext (some ⟨0x014, 0x00000036⟩) = none ∧
    waitIdleNext (some ⟨0x014, 0x00000003⟩) = some (.read 0x02C) ∧ waitIdleNext (some ⟨0x02C, 4⟩) = some (.read 0x028) ∧
    waitIdleNext (some ⟨0x02C, 0⟩) = some (.read 0x014) ∧ waitIdleNext (some ⟨0x028, 0x101⟩) = some (.read 0x014) := by
  decide

/-- R97, R98: lines and what they stand for. -/
theorem test_host_lines :
    lineTxn (.rgb 31 223 64) = .write 0x034 0x001FDF40 ∧ lineTxn (.wr .dim 0x00080008) = .write 0x008 0x00080008 ∧
    (HostLine.rep 2 [.pop]).map lineTxn = [.read 0x028, .read 0x028] ∧
    (State.reset.issueProgram [.cmd .init, .rd .status]).inputs = [.host (.write 0x010 1), .host (.read 0x014)] ∧
    windowOffset 0x40000000 0x40000014 = some 0x014 ∧ windowOffset 0x40000000 0x40001000 = none := by decide

/-! ### Witnesses: a concrete state and operands that meet the hypotheses of each statement, clause by clause -/

/-- `busy` with the engine stalled: the FIFO of 4 bytes is full (P6, step 12). -/
def stalled : State := { busy with ofifo := recordP1.take 4, pending := recordP1.drop 4 }

theorem witness_DecodeAndEncodeAgree :
    (Instr.wrFifoDepth 0xFFFFFFFF).wf = true ∧ decode (.bus (.write 0x058 0xFFFFFFFF)) = .instr (.wrFifoDepth 0xFFFFFFFF) ∧
    decode (.cmd 2) = .instr .encode := by decide

theorem witness_TransactionDecoding :
    (∃ r ∈ busRows, r.matchesCode 0x1058 = true) ∧ (Txn.read 0x058).off.toNat % 4 = 0 ∧
    (Txn.read 0x058).off.toNat ≤ 0x058 ∧ (Txn.read 0x059).off.toNat % 4 ≠ 0 ∧ (Txn.write 0x05C 0).off.toNat % 4 = 0 ∧
    0x05C ≤ (Txn.write 0x05C 0).off.toNat ∧ 0x05C ≤ (Txn.write 0xFFC 0).off.toNat := by decide

theorem witness_StepRunsTheDecodedInstruction :
    (ready.withTransaction (.write 0x034 1)).inputs = .host (.write 0x034 1) :: [] ∧
    decodeTxn (.write 0x034 1) = .instr (.wrPixData 1) ∧ (Instr.wrPixData 1).wf = true := by decide

theorem witness_UnmappedAccess :
    (ready.withTransaction (.read 0x05C)).inputs = .host (.read 0x05C) :: [] ∧ 0x05C ≤ (Txn.read 0x05C).off.toNat ∧
    (Txn.write 0x001 7).off.toNat % 4 ≠ 0 ∧ (Txn.write 0xFFF 7).off.toNat % 4 ≠ 0 := by decide

theorem witness_HardwareReset : ({ busy with inputs := [.reset, .engine] }).inputs = .reset :: [.engine] := rfl

/-- `busy` meets the invariant, with a record in progress and `Prev` in use; so does the state after its step. -/
theorem witness_Inv_busy : Inv busy := by
  have h : parametersWf busy.canvasCap busy.prevCap busy.fifoDepth = true ∧
      busy.ofifo.length ≤ busy.fifoDepth.toNat ∧ busy.canvas.wf ∧ busy.canvas.below busy.canvasCap.toNat ∧
      busy.prev.wf ∧ busy.prev.below busy.prevCap.toNat ∧
      cfgCheck busy.actCfg busy.actDim busy.canvasCap busy.prevCap = .eNone ∧ busy.cfgValid = true ∧
      (∀ a < busy.prevExtent, (busy.prev.read a).isSome = true) ∧ busy.prevValid = true ∧ busy.done = false ∧
      busy.err = false ∧ busy.errMulti = false ∧ busy.errCode = .eNone ∧
      busy.pending.length ≤ busy.recLen.toNat ∧ busy.updCount.toNat ≤ busy.tileCount ∧
      busy.recLen.toNat ≤ 8519552 := by decide +kernel
  obtain ⟨h1, h2, h3, h4, h5, h6, h7, h8, h9, h10, h11, h12, h13, h14, h15, h16, h17⟩ := h
  exact ⟨h1, h2, h3, h4, h5, h6, fun _ => h7, fun _ => h8, fun _ => h9, by simp [h10], by simp [h11],
    fun _ => ⟨h13, h14⟩, by simp [h12], h15, fun _ => h16, h17⟩

theorem witness_Inv_ready : Inv ready := by
  have h : parametersWf ready.canvasCap ready.prevCap ready.fifoDepth = true ∧ ready.canvas.wf ∧
      ready.canvas.below ready.canvasCap.toNat ∧
      cfgCheck ready.actCfg ready.actDim ready.canvasCap ready.prevCap = .eNone := by decide +kernel
  obtain ⟨h1, h2, h3, h4⟩ := h
  exact ⟨h1, by decide, h2, h3, by decide, by decide, fun _ => h4, by decide, by decide, by decide, by decide,
    by decide, by decide, by decide, by decide, by decide⟩

theorem witness_EveryStepKeepsTheInvariant : Inv busy ∧ ∃ t, step busy = next t ∧ t.ofifo = [0x01] :=
  ⟨witness_Inv_busy, _, rfl, by decide +kernel⟩

/-- An idle block without an error whose staged pair is illegal. -/
theorem witness_StagedConfiguration :
    State.reset.pending = [] ∧ State.reset.err = false ∧
    ¬ ((State.reset.cfg.direct = false ∧ State.reset.cfg.bpp.toNat ∈ [1, 2, 4, 8]) ∨
      (State.reset.cfg.direct = true ∧ State.reset.cfg.bpp.toNat ∈ [8, 9])) := by decide

theorem witness_WriteThenRead :
    ∃ s1 s2, exec (.wrCfg 0xFFFFFFFF) ready = next s1 ∧ exec .rdCfg s1 = next s2 := ⟨_, _, rfl, rfl⟩

theorem witness_WriteThenRead_others :
    (∃ s1 s2, exec (.wrDim 0xFFFFFFFF) busy = next s1 ∧ exec .rdDim s1 = next s2) ∧
    (∃ s1 s2, exec (.wrKfi 0xFFFFFFFF) busy = next s1 ∧ exec .rdKfi s1 = next s2) ∧
    (∃ s1 s2, exec (.wrIrqEn 0xFFFFFFFF) busy = next s1 ∧ exec .rdIrqEn s1 = next s2) ∧
    (∃ s1 s2, exec (.wrPixAddr 0xFFFFFFFF) busy = next s1 ∧ exec .rdPixAddr s1 = next s2) :=
  ⟨⟨_, _, rfl, rfl⟩, ⟨_, _, rfl, rfl⟩, ⟨_, _, rfl, rfl⟩, ⟨_, _, rfl, rfl⟩⟩

/-- For every statement that distinguishes a busy from an idle block, and a valid from an invalid configuration. -/
theorem witness_idle_and_busy :
    drained.pending = [] ∧ busy.pending ≠ [] ∧ ready.pending = [] ∧ ready.cfgValid = true ∧
    State.reset.pending = [] ∧ State.reset.cfgValid = false := by decide +kernel

/-- Both sources are enabled and pending, and the input is a `STATUS` write that clears neither. -/
theorem witness_InterruptStaysAsserted :
    let both : State := { drained with err := true, errCode := .eBusy, irqEn := ⟨true, true⟩ }
    let s : State := { both with inputs := [.host (.write 0x014 0xFFFFFFF3)] }
    s.done = true ∧ s.err = true ∧ s.irqEn = ⟨true, true⟩ ∧ (∃ t, step s = next t) ∧ ¬ s.nextIsReset ∧
      (∀ d : Word, s.nextIs (.write 0x014 d) → d.getLsbD 2 = false ∧ d.getLsbD 3 = false) ∧
      (∀ d : Word, s.nextIs (.write 0x018 d) → d.getLsbD 0 = true ∧ d.getLsbD 1 = true) ∧
      ¬ s.runsInit ∧ ¬ s.acceptsEncode := by
  refine ⟨rfl, rfl, rfl, ⟨_, rfl⟩, by simp [State.nextIsReset], ?_, ?_, ?_, ?_⟩
  · rintro d ⟨rest, h⟩
    simp only [List.cons.injEq, Event.host.injEq, Txn.write.injEq] at h
    rw [← h.1.2]
    decide
  · simp [State.nextIs]
  · simp [State.runsInit, State.nextIs, Reg.offset]
  · simp [State.acceptsEncode, State.nextIs, Reg.offset]

theorem witness_InterruptStaysAsserted_irqEn :
    let s : State := { failed with irqEn := ⟨true, true⟩, inputs := [.host (.write 0x018 0xFFFFFFFE)] }
    s.err = true ∧ s.irqEn.errIe = true ∧ (∃ t, step s = next t) ∧ ¬ s.nextIsReset ∧
      (∀ d : Word, s.nextIs (.write 0x014 d) → d.getLsbD 3 = false) ∧
      ∀ d : Word, s.nextIs (.write 0x018 d) → d.getLsbD 1 = true := by
  refine ⟨rfl, rfl, ⟨_, rfl⟩, by simp [State.nextIsReset], by simp [State.nextIs], ?_⟩
  rintro d ⟨rest, h⟩
  simp only [List.cons.injEq, Event.host.injEq, Txn.write.injEq] at h
  rw [← h.1.2]
  decide

/-- A read of a register that R217 does not name while busy, one of `STATUS` while busy, and one of the last pixel. -/
theorem witness_ReadsWithoutSideEffect :
    busy.pending ≠ [] ∧ Reg.outLevel ≠ .outData ∧ Reg.outLevel ∉ [Reg.status, Reg.frameIdx, Reg.updCount, Reg.recLen] ∧
    (∃ t u, exec Reg.outLevel.readInstr busy = next t ∧ exec Reg.outLevel.readInstr t = next u) ∧
    (∃ t u, exec Reg.status.readInstr busy = next t ∧ exec Reg.status.readInstr t = next u) ∧
    (∃ t u, exec Reg.pixData.readInstr { ready with pixAddr := 63 } = next t ∧
      exec Reg.pixData.readInstr t = next u) ∧
    ready.cfgValid = true ∧ (63#32).toNat < ready.actDim.width.toNat * ready.actDim.height.toNat := by
  have h : busy.pending ≠ [] := by decide +kernel
  exact ⟨h, by decide, by decide, ⟨_, _, rfl, rfl⟩, ⟨_, _, rfl, rfl⟩, by
    refine ⟨_, _, show exec _ _ = next (after .rdPixData { ready with pixAddr := 63 }) from ?_,
      show exec _ _ = next (after .rdPixData (after .rdPixData { ready with pixAddr := 63 })) from ?_⟩ <;> rfl,
    rfl, by decide⟩

theorem witness_RaiseCaptures : ready.err = false ∧ failed.err = true := by decide

theorem witness_CaptureIsClearedOnly :
    let s : State := { failed with inputs := [.host (.write 0x014 0xFFFFFFF7)] }
    (∃ t, step s = next t) ∧ s.err = true ∧ ¬ s.nextIsReset ∧
      ∀ d : Word, s.nextIs (.write 0x014 d) → d.getLsbD 3 = false := by
  refine ⟨⟨_, rfl⟩, rfl, by simp [State.nextIsReset], ?_⟩
  rintro d ⟨rest, h⟩
  simp only [List.cons.injEq, Event.host.injEq, Txn.write.injEq] at h
  rw [← h.1.2]
  decide

/-- The first and the last pixel are in range, the next index is not. -/
theorem witness_PixelAccess :
    ready.pending = [] ∧ ready.cfgValid = true ∧
    ready.pixAddr.toNat < ready.actDim.width.toNat * ready.actDim.height.toNat ∧
    (63#32).toNat < ready.actDim.width.toNat * ready.actDim.height.toNat ∧
    ready.actDim.width.toNat * ready.actDim.height.toNat ≤ (64#32).toNat := by decide

theorem witness_CanvasIsWritten :
    let s : State := { ready with pixAddr := 63, inputs := [.host (.write 0x034 5)] }
    ∃ t, step s = next t ∧ ¬ s.nextIsReset ∧ t.canvasAt 63 ≠ s.canvasAt 63 := by
  refine ⟨_, rfl, by simp [State.nextIsReset], by decide +kernel⟩

/-- A canvas of 16 x 24 pixels: its last pixel, and its last tile. -/
theorem witness_TilePixels :
    (DimReg.mk 16 24).width.toNat % 8 = 0 ∧ 15 < (DimReg.mk 16 24).width.toNat ∧ 5 < (DimReg.mk 16 24).tileCount ∧
    (DimReg.mk 16 24).tilePixel 5 63 = 383 := by decide

theorem witness_RegistersChange :
    let s : State := { ready with inputs := [.host (.write 0x034 1)] }
    ∃ t, step s = next t ∧ t.pixAddr ≠ s.pixAddr := ⟨_, rfl, by decide +kernel⟩

theorem witness_RegistersChange_staged :
    let s : State := { busy with inputs := [.host (.write 0x004 0x39)] }
    ∃ t, step s = next t ∧ t.cfg ≠ s.cfg := ⟨_, rfl, by decide +kernel⟩

theorem witness_IndexedPacking : 1 ∈ [1, 2, 4, 8] ∧ 8 ∈ [1, 2, 4, 8] ∧ 63 < 64 ∧ 7 < 8 := by decide

/-- Each mode's pair, an illegal pair on either side of each, and a valid mode with its last pixel. -/
theorem witness_Modes :
    (CfgReg.mk 1 false false).mode = some .idx1 ∧ (CfgReg.mk 2 false false).mode = some .idx2 ∧
    (CfgReg.mk 4 false true).mode = some .idx4 ∧ (CfgReg.mk 8 false false).mode = some .idx8 ∧
    (CfgReg.mk 8 true false).mode = some .rgb332 ∧ (CfgReg.mk 9 true true).mode = some .rgb333 ∧
    (9 : BitVec 4).toNat ∉ [1, 2, 4, 8] ∧ (3 : BitVec 4).toNat ∉ [1, 2, 4, 8] ∧ (4 : BitVec 4).toNat ∉ [8, 9] ∧
    (10 : BitVec 4).toNat ∉ [8, 9] ∧ (9 : BitVec 4).toNat = 9 ∧ ready.actCfg.mode = some .idx1 ∧ 63 < 64 := by decide

/-- Two canvases that differ above bit 0 only. -/
theorem witness_TileBufferDependsOnlyOnItsSamples :
    let t : State := { ready with canvas := checkerboard.map fun c => (c.1, c.2 ||| 0x0FE) }
    ready.actCfg.mode = some .idx1 ∧ t.actCfg.mode = some .idx1 ∧ t.canvasAt 0 ≠ ready.canvasAt 0 ∧
    ∀ p < 64, ((ready.tileSample 0 p).setWidth Mode.idx1.depth : BitVec Mode.idx1.depth) =
      (t.tileSample 0 p).setWidth Mode.idx1.depth := by decide +kernel

theorem witness_Updates : ready.isKey = true ∧ drained.isKey = false := by decide +kernel

theorem witness_UnchangedFrame :
    exec .encode ready = next busy ∧ drained.actCfg = ready.actCfg ∧ drained.actDim = ready.actDim ∧
    (∀ i, drained.canvasAt i = ready.canvasAt i) ∧ (∀ a < drained.prevExtent, drained.prevByte a = busy.prevByte a) ∧
    drained.isKey = false :=
  ⟨rfl, rfl, rfl, fun _ => rfl, fun _ _ => rfl, by decide +kernel⟩

theorem witness_KeyframeRecord :
    let t : State := { drained with actKfi := 1, frameIdx := 77 }
    ready.isKey = true ∧ t.isKey = true ∧ ready.actCfg = t.actCfg ∧ ready.actDim = t.actDim ∧
      ∀ i < ready.npix, ready.canvasAt i = t.canvasAt i := by decide +kernel

/-- Two states whose `Prev` differs above the one tile in use. -/
theorem witness_PreviousTiles :
    let t : State := { drained with prev := drained.prev ++ [(100, 7)] }
    drained.prev ≠ t.prev ∧ drained.prevValid = true ∧ drained.alike t ∧
      (∃ s', step drained = next s') ∧ ∃ t', step t = next t' := by
  refine ⟨by decide +kernel, rfl, ⟨rfl, fun _ => ?_⟩, ⟨_, rfl⟩, ⟨_, rfl⟩⟩
  decide +kernel

theorem witness_Records :
    ([0, 255, 65534] : List Nat).Pairwise (· < ·) ∧ ([0, 255, 65534] : List Nat).length ≤ 65535 ∧
    ∀ t ∈ ([0, 255, 65534] : List Nat), t ≤ 65535 ∧ ([BitVec.ofNat 8 t] : List Byte).length = 1 := by decide

theorem witness_EncodedFrame :
    Inv ready ∧ ready.pending = [] ∧ ready.cfgValid = true ∧ exec .encode ready = next busy ∧
    ready.actCfg.recfmt = false ∧ Inv { ready with actCfg := ⟨9, true, true⟩ } := by
  refine ⟨witness_Inv_ready, rfl, rfl, rfl, rfl, ?_⟩
  have h := witness_Inv_ready
  exact { h with
    active := by decide +kernel
    retained := by decide +kernel
    countBound := by decide +kernel }

/-- A word for each clause, and reserved ones beside them. -/
theorem witness_CommandWords : (3 : Word) ≠ 0 ∧ (3 : Word) ≠ 1 ∧ (3 : Word) ≠ 2 ∧ (0x100 : Word) ≠ 0 := by decide

/-- A configuration that each check of R214 stops first, and one that passes with both capacities used up: 255 x 257
tiles are the most there can be. -/
theorem witness_ConfigurationCheckOrder :
    cfgCheck ⟨10, true, false⟩ ⟨8, 8⟩ 64 128 = .eCfgBpp ∧ cfgCheck ⟨9, true, false⟩ ⟨8, 9⟩ 64 128 = .eCfgDim ∧
    cfgCheck ⟨1, false, false⟩ ⟨2048, 2048⟩ 0xFFFFFFFF 0xFFFFFFFF = .eCfgTiles ∧
    cfgCheck ⟨1, false, false⟩ ⟨2040, 2056⟩ 0xFFFFFFFF 0xFFFFFFFF = .eNone ∧
    cfgCheck ⟨9, true, false⟩ ⟨8, 8⟩ 63 128 = .eCfgCap ∧ cfgCheck ⟨9, true, false⟩ ⟨8, 8⟩ 64 127 = .eCfgCap ∧
    cfgCheck ⟨9, true, false⟩ ⟨8, 8⟩ 64 128 = .eNone := by decide +kernel

theorem witness_Init :
    ready.pending = [] ∧ cfgCheck ready.cfg ready.dim ready.canvasCap ready.prevCap = .eNone ∧ busy.pending ≠ [] ∧
    State.reset.pending = [] ∧
    cfgCheck State.reset.cfg State.reset.dim State.reset.canvasCap State.reset.prevCap ≠ .eNone := by decide +kernel

theorem witness_ActiveConfigurationChanges :
    let s : State := { ready with dim := ⟨16, 8⟩, inputs := [.host (.write 0x010 1)] }
    ∃ t, step s = next t ∧ t.actDim ≠ s.actDim := ⟨_, rfl, by decide +kernel⟩

/-- The engine's turn with room, with none, and with nothing to push. -/
theorem witness_EngineTurn :
    busy.inputs = [] ∧ busy.pending = 0x01 :: recordP1.drop 1 ∧ busy.ofifo.length < busy.fifoDepth.toNat ∧
    ({ busy with inputs := [.engine] }).inputs = .engine :: [] ∧ stalled.fifoDepth.toNat ≤ stalled.ofifo.length ∧
    ready.pending = [] := by decide +kernel

theorem witness_OutputFifoReads : drained.ofifo = [] ∧ stalled.ofifo = 0x01 :: [0x01, 0x00, 0x00] := by decide +kernel

/-- An ENCODE, a push and a pop are still to come. -/
def encoding : State := { ready with inputs := [.host (.write 0x010 2), .engine, .host (.read 0x028)] }

/-- No step of `encoding` discards output, and a record of 12 bytes comes out of it. -/
theorem witness_OutputIsTheRecords :
    (∀ j < 3, ¬ (State.afterSteps j encoding).discardsOutput) ∧ State.emittedIn 3 encoding = recordP1 := by
  have h : (State.afterSteps 0 encoding).inputs = [.host (.write 0x010 2), .engine, .host (.read 0x028)] ∧
      (State.afterSteps 1 encoding).inputs = [.engine, .host (.read 0x028)] ∧
      (State.afterSteps 2 encoding).inputs = [.host (.read 0x028)] ∧ State.emittedIn 3 encoding = recordP1 := by
    decide +kernel
  obtain ⟨h0, h1, h2, h3⟩ := h
  refine ⟨fun j hj => ?_, h3⟩
  rcases (by omega : j = 0 ∨ j = 1 ∨ j = 2) with rfl | rfl | rfl <;>
    simp [State.discardsOutput, State.runsInit, State.nextIs, State.nextIsReset, h0, h1, h2, Reg.offset]

theorem witness_InitAndReset :
    let s : State := { drained with ofifo := [0x55], inputs := [.host (.write 0x010 1)] }
    (∃ t, step s = next t) ∧ s.discardsOutput ∧ ({ busy with inputs := [.reset] }).discardsOutput :=
  ⟨⟨_, rfl⟩, .inl ⟨⟨[], rfl⟩, rfl⟩, .inr ⟨[], rfl⟩⟩

theorem witness_FullFifo :
    stalled.pending ≠ [] ∧ stalled.fifoDepth.toNat ≤ stalled.ofifo.length ∧ (∃ t, step stalled = next t) ∧
    ¬ stalled.nextIs (.read 0x028) ∧ ¬ stalled.nextIsReset := by
  have h : stalled.pending ≠ [] ∧ stalled.fifoDepth.toNat ≤ stalled.ofifo.length := by decide +kernel
  have hi : stalled.inputs = [] := rfl
  exact ⟨h.1, h.2, ⟨_, rfl⟩, by simp [State.nextIs, hi], by simp [State.nextIsReset, hi]⟩

/-- `stalled` before a host that pops and an engine that gets its turns. -/
def popping : State :=
  { stalled with inputs := (List.replicate 8 [Event.host (.read 0x028), Event.engine]).flatten ++ [.reset] }

theorem witness_PoppingHost : Inv popping ∧ popping.pending ≠ [] ∧ popping.pending.length = 8 := by
  have h : popping.ofifo.length ≤ popping.fifoDepth.toNat ∧ popping.pending.length ≤ popping.recLen.toNat ∧
      popping.pending ≠ [] ∧ popping.pending.length = 8 ∧ popping.prevValid = true ∧ popping.done = false ∧
      (∀ a < popping.prevExtent, (popping.prev.read a).isSome = true) ∧ popping.updCount.toNat ≤ popping.tileCount := by
    decide +kernel
  obtain ⟨h1, h2, h3, h4, h5, h6, h7, h8⟩ := h
  have b := witness_Inv_busy
  exact ⟨⟨b.params, h1, b.canvasForm, b.canvasBound, b.prevForm, b.prevBound, b.active, b.session, fun _ => h7,
    by simp [h5], by simp [h6], b.noError, b.errorCode, h2, fun _ => h8, b.lengthBound⟩, h3, h4⟩

theorem witness_BusyWindow :
    busy.pending ≠ [] ∧ (∃ t, step busy = next t) ∧ ¬ busy.nextIsReset := by
  have hi : busy.inputs = [] := rfl
  exact ⟨by decide +kernel, ⟨_, rfl⟩, by simp [State.nextIsReset, hi]⟩

theorem witness_HostLines :
    (HostLine.rdRaw 0xFFF).wf = true ∧ (HostLine.wrRaw 0xFFF 0xFFFFFFFF).wf = true ∧
    (HostLine.wr .fifoDepth 0xFFFFFFFF).wf = true ∧ (HostLine.pix 0xFFFFFFFF).wf = true ∧
    (HostLine.rgb 255 255 255).wf = true := by decide

end Sys2Proof.Tests
end

/-! # The invariant of the block

Settled here: `InvariantHoldsAtReset`, `EveryStepKeepsTheInvariant` and `EngineTurnPushesOneByte`. First come the
facts about the configuration check, the sizes of tile buffers and records, and the inversion of a host transaction
(`hostTransaction_effect`); then one lemma for each operation that says it keeps `Inv`. -/

namespace Sys2Proof.Machine

/-! ### The configuration check -/

/-- A configuration passes the check exactly if it fails none of the four tests of R214. -/
theorem cfgCheck_eq_eNone_iff {c : CfgReg} {d : DimReg} {canvasCap prevCap : Word} :
    cfgCheck c d canvasCap prevCap = .eNone ↔
      c.mode ≠ none ∧
      ¬ (d.width.toNat = 0 ∨ d.height.toNat = 0 ∨ d.width.toNat % 8 ≠ 0 ∨ d.height.toNat % 8 ≠ 0) ∧
      d.tileCount ≤ 65535 ∧ d.npix ≤ canvasCap.toNat ∧ d.tileCount * c.tileBytes ≤ prevCap.toNat := by
  unfold cfgCheck CfgReg.tileBytes
  cases c.mode with
  | none => simp
  | some m =>
    dsimp only
    split_ifs with hdim htiles hcap
    · exact iff_of_false nofun fun ⟨_, hok, _⟩ => hok hdim
    · exact iff_of_false nofun fun ⟨_, _, hle, _⟩ => by omega
    · exact iff_of_false nofun fun ⟨_, _, _, hpixels, hbytes⟩ => by omega
    · exact iff_of_true rfl ⟨nofun, hdim, by omega, by omega, by omega⟩

/-- The sizes of a valid session's configuration are within the spec's bound and the capacities. -/
theorem Inv.sizes_le {s : State} (h : Inv s) (hv : s.cfgValid = true) :
    s.tileCount ≤ 65535 ∧ s.npix ≤ s.canvasCap.toNat ∧ s.prevExtent ≤ s.prevCap.toNat := by
  obtain ⟨-, -, htiles, hpixels, hbytes⟩ := cfgCheck_eq_eNone_iff.mp (h.active hv)
  exact ⟨htiles, hpixels, hbytes⟩

/-! ### The size of a tile buffer -/

/-- Every mode packs a tile into `TILE_BYTES` bytes (R26, R140). -/
@[simp] theorem Mode.length_pack (m : Mode) (sample : Nat → Sample) : (m.pack sample).length = m.tileBytes := by
  cases m <;> simp [Mode.pack, Mode.tileBytes, packIndexed, packRgb332, packRgb333]

@[simp] theorem State.length_packTile (s : State) (t : Nat) : (s.packTile t).length = s.tileBytes := by
  unfold State.packTile State.tileBytes CfgReg.tileBytes
  cases s.actCfg.mode <;> simp

theorem State.tileBytes_le (s : State) : s.tileBytes ≤ 128 := by
  unfold State.tileBytes CfgReg.tileBytes
  rcases s.actCfg.mode with - | (- | - | - | - | - | -) <;> simp [Mode.tileBytes]

@[simp] theorem State.length_currentTiles (s : State) : s.currentTiles.length = s.prevExtent := by
  simp [State.currentTiles, State.prevExtent, List.length_flatMap]

/-! ### The update list -/

theorem State.length_updates_le (s : State) : s.updates.length ≤ s.tileCount := by
  simpa [State.updates] using List.length_filter_le s.changed (List.range s.tileCount)

theorem State.updates_ascending (s : State) : s.updates.Pairwise (· < ·) :=
  List.pairwise_lt_range.filter _

theorem State.lt_tileCount_of_mem_updates {s : State} {t : Nat} (h : t ∈ s.updates) : t < s.tileCount :=
  List.mem_range.mp (List.mem_filter.mp h).1

/-! ### The size of a record -/

@[simp] theorem length_le16 (v : Nat) : (le16 v).length = 2 := rfl

/-- R181: a gap takes one byte, and one more for each 255 in it. -/
theorem length_skipLoop {fuel gap : Nat} (h : gap ≤ fuel) : (skipLoop fuel gap).length = gap / 255 + 1 := by
  induction fuel generalizing gap with
  | zero => simp [skipLoop, Nat.le_zero.mp h]
  | succ fuel ih =>
    by_cases hgap : 255 ≤ gap
    · simp only [skipLoop, ge_iff_le, hgap, if_true, List.length_cons, ih (by omega : gap - 255 ≤ fuel)]
      omega
    · simp only [skipLoop, ge_iff_le, hgap, if_false, List.length_singleton]
      omega

@[simp] theorem length_skipBytes (gap : Nat) : (skipBytes gap).length = gap / 255 + 1 :=
  length_skipLoop le_rfl

section RecordLength

variable {cur : Nat → List Byte} {n : Nat} (hcur : ∀ t, (cur t).length = n)
include hcur

/-- The skips of ascending indices from `prevIndex` to below `bound` take at most one byte for each tile there: an
update's skip is no longer than the tiles it passes, its own included. -/
theorem length_skipEncodeFrom_le {U : List Nat} {prevIndex bound : Nat} (hasc : U.Pairwise (· < ·))
    (hrange : ∀ t ∈ U, prevIndex ≤ t ∧ t < bound) :
    (skipEncodeFrom cur prevIndex U).length ≤ (bound - prevIndex) + U.length * n := by
  induction U generalizing prevIndex with
  | nil => simp [skipEncodeFrom]
  | cons t rest ih =>
    obtain ⟨hhead, htail⟩ := List.pairwise_cons.mp hasc
    have hrest := ih (prevIndex := t + 1) htail fun u hu => ⟨hhead u hu, (hrange u (List.mem_cons_of_mem _ hu)).2⟩
    have ht := hrange t List.mem_cons_self
    simp only [skipEncodeFrom, List.length_append, length_skipBytes, hcur, List.length_cons, Nat.succ_mul]
    omega

theorem length_recordFlat (U : List Nat) : (recordFlat U cur).length = 2 + U.length * (2 + n) := by
  simp [recordFlat, List.length_flatMap, hcur]

theorem length_recordSkip_le (isKey : Bool) {U : List Nat} {bound : Nat} (hasc : U.Pairwise (· < ·))
    (hrange : ∀ t ∈ U, t < bound) : (recordSkip isKey U cur).length ≤ 3 + bound + U.length * n := by
  have := length_skipEncodeFrom_le hcur (prevIndex := 0) hasc fun t ht => ⟨t.zero_le, hrange t ht⟩
  simp only [recordSkip, skipEncode, List.length_append, List.length_singleton, length_le16]
  omega

end RecordLength

/-- The longest record there can be (R34): the flat record of 65,535 updates of 128 bytes. -/
theorem State.length_record_le {s : State} (h : s.tileCount ≤ 65535) : s.record.length ≤ 8519552 := by
  have hcount : s.updates.length ≤ 65535 := s.length_updates_le.trans h
  have hbytes : s.updates.length * s.tileBytes ≤ 65535 * 128 := Nat.mul_le_mul hcount s.tileBytes_le
  unfold State.record
  split_ifs
  · rw [length_recordFlat s.length_packTile, Nat.mul_add]
    omega
  · have := length_recordSkip_le s.length_packTile s.isKey s.updates_ascending
      fun t ht => lt_tileCount_of_mem_updates ht
    omega

/-! ### What a host transaction can do -/

/-- What a host transaction can do to the block, one constructor for each kind of effect: the transaction, the
conditions under which it has the effect, and the state after it. -/
inductive TxnEffect (s : State) : Txn → State → Prop
  /-- A read that only brings a value to the host. -/
  | answer (r : Reg) (v : Word) : TxnEffect s (.read r.offset) (s.respond r.offset v)
  /-- A read that takes a draw, because the block is busy (R217). -/
  | draw (r : Reg) (v : Word) (hbusy : s.busy = true) :
      TxnEffect s (.read r.offset) ({ s with readDraws := s.readDraws + 1 }.respond r.offset v)
  /-- A failing read of `PIX_DATA` (R125). -/
  | refuseRead (code : ErrCode) (hcode : code = .eNotCfg ∨ code = .ePixRange) :
      TxnEffect s (.read Reg.pixData.offset) ((s.raiseError code).respond Reg.pixData.offset 0)
  /-- A read of `OUT_DATA` that pops a byte (R219). -/
  | pop (b : Byte) (rest : List Byte) (hfifo : s.ofifo = b :: rest) :
      TxnEffect s (.read Reg.outData.offset)
        ({ s with ofifo := rest }.respond Reg.outData.offset (outDataWord b))
  /-- A write to a read-only register (R255). -/
  | ignored (r : Reg) (d : Word) : TxnEffect s (.write r.offset d) s
  | writeCfg (d : Word) : TxnEffect s (.write Reg.cfg.offset d) { s with cfg := CfgReg.ofWord d }
  | writeDim (d : Word) : TxnEffect s (.write Reg.dim.offset d) { s with dim := DimReg.ofWord d }
  | writeKfi (d : Word) : TxnEffect s (.write Reg.kfi.offset d) { s with kfi := kfiOfWord d }
  | writeIrqEn (d : Word) : TxnEffect s (.write Reg.irqEn.offset d) { s with irqEn := IrqEnReg.ofWord d }
  | writePixAddr (d : Word) : TxnEffect s (.write Reg.pixAddr.offset d) { s with pixAddr := d }
  /-- A write of `STATUS` clears `DONE`, or the capture, or both, or neither (R245). -/
  | clearDone (d : Word) (hdone : statusClearsDone d = true) (herr : statusClearsErr d = false) :
      TxnEffect s (.write Reg.status.offset d) { s with done := false }
  | clearErr (d : Word) (hdone : statusClearsDone d = false) (herr : statusClearsErr d = true) :
      TxnEffect s (.write Reg.status.offset d) s.clearError
  | clearBoth (d : Word) (hdone : statusClearsDone d = true) (herr : statusClearsErr d = true) :
      TxnEffect s (.write Reg.status.offset d) { s with done := false }.clearError
  | clearNone (d : Word) (hdone : statusClearsDone d = false) (herr : statusClearsErr d = false) :
      TxnEffect s (.write Reg.status.offset d) s
  /-- A write of `CMD` (R210). -/
  | issue (d : Word) : TxnEffect s (.write Reg.cmd.offset d) (s.issueCommand d)
  /-- A pixel that is not accepted (R120). -/
  | refusePixel (d : Word) (code : ErrCode) (hcode : code = .eBusy ∨ code = .eNotCfg ∨ code = .ePixRange) :
      TxnEffect s (.write Reg.pixData.offset d) (s.raiseError code)
  /-- A pixel that is accepted (R120). -/
  | storePixel (d : Word) (hbusy : s.busy = false) (hvalid : s.cfgValid = true) (hrange : s.pixAddr.toNat < s.npix) :
      TxnEffect s (.write Reg.pixData.offset d) (s.storePixel d)
  /-- An access to no register (R256). -/
  | unmapped (t : Txn) (hoff : ∀ r : Reg, t.off ≠ r.offset) : TxnEffect s t (s.unmappedAccess t)

/-- A register that R217 leaves unspecified while busy is answered, with a draw or without. -/
theorem respondUnlessBusy_effect (s : State) (r : Reg) (v : Word) (drawn : Nat → Word) :
    TxnEffect s (.read r.offset) (s.respondUnlessBusy r.offset v drawn) := by
  cases hb : s.busy with
  | false => exact State.respondUnlessBusy_idle hb .. ▸ .answer r _
  | true => exact State.respondUnlessBusy_busy hb .. ▸ .draw r _ hb

theorem popOutput_effect (s : State) : TxnEffect s (.read Reg.outData.offset) s.popOutput := by
  obtain ⟨-, heq⟩ | ⟨b, rest, hfifo, heq⟩ := s.popOutput_cases
  · exact heq ▸ .answer .outData 0
  · exact heq ▸ .pop b rest hfifo

theorem execRdPixData_effect (s : State) :
    ∃ t, execRdPixData s = .next t ∧ TxnEffect s (.read Reg.pixData.offset) t := by
  unfold execRdPixData
  split_ifs
  · exact ⟨_, rfl, .refuseRead .eNotCfg (.inl rfl)⟩
  · exact ⟨_, rfl, .refuseRead .ePixRange (.inr rfl)⟩
  · exact ⟨_, rfl, .answer .pixData _⟩

theorem execWrPixData_effect (d : Word) (s : State) :
    ∃ t, execWrPixData d s = .next t ∧ TxnEffect s (.write Reg.pixData.offset d) t := by
  unfold execWrPixData
  split_ifs with hbusy hvalid hrange
  · exact ⟨_, rfl, .refusePixel d .eBusy (.inl rfl)⟩
  · exact ⟨_, rfl, .refusePixel d .eNotCfg (.inr (.inl rfl))⟩
  · exact ⟨_, rfl, .refusePixel d .ePixRange (.inr (.inr rfl))⟩
  · exact ⟨_, rfl, .storePixel d (by simpa using hbusy) (by simpa using hvalid) (by omega)⟩

theorem execWrStatus_effect (d : Word) (s : State) :
    ∃ t, execWrStatus d s = .next t ∧ TxnEffect s (.write Reg.status.offset d) t := by
  refine ⟨_, rfl, ?_⟩
  cases hdone : statusClearsDone d <;> cases herr : statusClearsErr d
  · exact .clearNone d hdone herr
  · exact .clearErr d hdone herr
  · exact .clearDone d hdone herr
  · exact .clearBoth d hdone herr

/-- Every read of a register has a next state, reached by one of the effects. -/
theorem exec_readInstr_effect (r : Reg) (s : State) :
    ∃ t, exec r.readInstr s = .next t ∧ TxnEffect s (.read r.offset) t := by
  cases r with
  | status | frameIdx | updCount | recLen => exact ⟨_, rfl, respondUnlessBusy_effect s _ _ _⟩
  | outData => exact ⟨_, rfl, popOutput_effect s⟩
  | pixData => exact execRdPixData_effect s
  | _ => exact ⟨_, rfl, .answer _ _⟩

/-- Every write of a register has a next state, reached by one of the effects. -/
theorem exec_writeInstr_effect (r : Reg) (d : Word) (s : State) :
    ∃ t, exec (r.writeInstr d) s = .next t ∧ TxnEffect s (.write r.offset d) t := by
  cases r with
  | cfg => exact ⟨_, rfl, .writeCfg d⟩
  | dim => exact ⟨_, rfl, .writeDim d⟩
  | kfi => exact ⟨_, rfl, .writeKfi d⟩
  | cmd => exact ⟨_, rfl, .issue d⟩
  | status => exact execWrStatus_effect d s
  | irqEn => exact ⟨_, rfl, .writeIrqEn d⟩
  | pixAddr => exact ⟨_, rfl, .writePixAddr d⟩
  | pixData => exact execWrPixData_effect d s
  | _ => exact ⟨_, rfl, .ignored _ d⟩

/-- Every host transaction has a next state, reached by one of the effects. -/
theorem hostTransaction_effect (t : Txn) (s : State) :
    ∃ s', hostTransaction t s = .next s' ∧ TxnEffect s t s' := by
  obtain ⟨r, rfl⟩ | ⟨r, d, rfl⟩ | hoff := Txn.cases t
  · exact hostTransaction_read r s ▸ exec_readInstr_effect r s
  · exact hostTransaction_write r d s ▸ exec_writeInstr_effect r d s
  · exact ⟨_, hostTransaction_unmapped hoff s, .unmapped t hoff⟩

/-! ### What keeps the invariant: registers, answers and errors -/

section KeepsInv

variable {s : State} (h : Inv s)
include h

/-- The invariant does not speak of the staged registers, `IRQ_EN`, `PIX_ADDR` or the environment's side. -/
theorem Inv.update {cfg : CfgReg} {dim : DimReg} {kfi : BitVec 16} {irqEn : IrqEnReg} {pixAddr : Word}
    {readDraws : Nat} {inputs : List Event} {reads : List BusRead} :
    Inv { s with
      cfg := cfg, dim := dim, kfi := kfi, irqEn := irqEn, pixAddr := pixAddr, readDraws := readDraws,
      inputs := inputs, reads := reads } :=
  { h with }

theorem Inv.respond (off : Offset) (v : Word) : Inv (s.respond off v) := h.update

theorem Inv.raiseError {code : ErrCode} (hcode : code ≠ .eNone) : Inv (s.raiseError code) := by
  rw [State.raiseError_eq]
  refine { h with noError := nofun, errorCode := fun _ => ?_ }
  show (if s.err then s.errCode else code) ≠ .eNone
  split_ifs with herr
  · exact h.errorCode herr
  · exact hcode

theorem Inv.clearError : Inv s.clearError :=
  { h with noError := fun _ => ⟨rfl, rfl⟩, errorCode := nofun }

theorem Inv.clearDone : Inv { s with done := false } := by
  refine { h with fresh := fun hprev => ?_, doneIdle := nofun }
  obtain ⟨hframe, hkey, hupd, hlen, -, hpending⟩ := h.fresh hprev
  exact ⟨hframe, hkey, hupd, hlen, rfl, hpending⟩

theorem Inv.unmappedAccess (t : Txn) : Inv (s.unmappedAccess t) := by
  cases t with
  | read off => exact (h.raiseError (code := .eBadAddr) nofun).respond off 0
  | write off d => exact h.raiseError nofun

/-! ### What keeps the invariant: the output FIFO and the engine -/

theorem Inv.pop {b : Byte} {rest : List Byte} (hfifo : s.ofifo = b :: rest) : Inv { s with ofifo := rest } := by
  have hbound := h.fifoBound
  rw [hfifo, List.length_cons] at hbound
  exact { h with fifoBound := Nat.le_of_succ_le hbound }

theorem Inv.engineTurn : Inv s.engineTurn := by
  obtain ⟨-, heq⟩ | ⟨b, rest, hpending, hroom, heq⟩ := s.engineTurn_cases <;> rw [heq]
  · exact h
  have hlen := h.pendingBound
  rw [hpending, List.length_cons] at hlen
  have hsession : s.prevValid ≠ false := fun hprev => by
    obtain ⟨-, -, -, -, -, hnone⟩ := h.fresh hprev
    simp [hpending] at hnone
  have hdone : s.done ≠ true := fun hd => by simpa [hpending] using h.doneIdle hd
  exact { h with
    fifoBound := by simpa using hroom
    fresh := fun hprev => absurd hprev hsession
    doneIdle := by simp [hdone]
    pendingBound := Nat.le_of_succ_le hlen }

/-! ### What keeps the invariant: the canvas and the commands -/

theorem Inv.storePixel (hvalid : s.cfgValid = true) (hrange : s.pixAddr.toNat < s.npix) (d : Word) :
    Inv (s.storePixel d) := by
  obtain ⟨-, hpixels, -⟩ := h.sizes_le hvalid
  exact { h with
    canvasForm := Memory.write_wf _ _ h.canvasForm
    canvasBound := Memory.write_below _ h.canvasBound (hrange.trans_le hpixels) }

theorem Inv.sessionReset (hidle : s.busy = false) : Inv s.sessionReset := by
  have hpending : s.pending = [] := State.busy_eq_false.mp hidle
  exact { h with
    fifoBound := Nat.zero_le _
    prevForm := List.Pairwise.nil
    prevBound := nofun
    session := nofun
    retained := nofun
    fresh := fun _ => ⟨rfl, rfl, rfl, rfl, rfl, hpending⟩
    doneIdle := nofun
    pendingBound := by simp [hpending]
    countBound := nofun
    lengthBound := Nat.zero_le _ }

/-- A configuration that passes the check may go into force, and one that does not may be dropped, once the session
is over. -/
theorem Inv.latchConfig (hprev : s.prevValid = false) (hcheck : s.stagedCheck = .eNone) : Inv s.latchConfig :=
  { h with
    active := fun _ => hcheck
    session := fun _ => rfl
    retained := fun hp => by simp [hprev] at hp
    countBound := fun hp => by simp [hprev] at hp }

theorem Inv.dropConfig (hprev : s.prevValid = false) : Inv { s with cfgValid := false } :=
  { h with
    active := nofun
    session := fun hp => by simp [hprev] at hp }

theorem Inv.cmdInit : Inv s.cmdInit := by
  obtain ⟨-, heq⟩ | ⟨hidle, hcheck, heq⟩ | ⟨hidle, hcheck, heq⟩ := s.cmdInit_cases <;> rw [heq]
  · exact h.raiseError nofun
  · exact (h.sessionReset hidle).latchConfig rfl hcheck
  · exact ((h.sessionReset hidle).dropConfig rfl).raiseError hcheck

theorem Inv.acceptFrame (hvalid : s.cfgValid = true) : Inv s.acceptFrame := by
  obtain ⟨htiles, -, hbytes⟩ := h.sizes_le hvalid
  have hrecord : s.record.length ≤ 8519552 := State.length_record_le htiles
  have hrecLen : s.acceptFrame.recLen.toNat = s.record.length := by
    simp only [State.acceptFrame_recLen, BitVec.toNat_ofNat]
    omega
  have hupdates : s.updates.length ≤ s.tileCount := s.length_updates_le
  exact { h with
    prevForm := Memory.writePrefix_wf _ h.prevForm
    prevBound := Memory.writePrefix_below h.prevBound (s.length_currentTiles ▸ hbytes)
    session := fun _ => hvalid
    retained := fun _ a ha => by
      have ha' : a < s.currentTiles.length := s.length_currentTiles ▸ ha
      rw [State.acceptFrame_prev, Memory.read_writePrefix, if_pos ha', List.getElem?_eq_getElem ha', Option.isSome_some]
    fresh := nofun
    doneIdle := nofun
    pendingBound := hrecLen.ge
    countBound := fun _ => (Nat.mod_le _ _).trans hupdates
    lengthBound := hrecLen.trans_le hrecord }

theorem Inv.cmdEncode : Inv s.cmdEncode := by
  obtain ⟨-, heq⟩ | ⟨-, -, heq⟩ | ⟨-, hvalid, heq⟩ := s.cmdEncode_cases <;> rw [heq]
  · exact h.raiseError nofun
  · exact h.raiseError nofun
  · exact h.acceptFrame hvalid

theorem Inv.issueCommand (d : Word) : Inv (s.issueCommand d) := by
  unfold State.issueCommand
  cases decodeCommand d with
  | none => exact h.raiseError nofun
  | some c =>
    cases c with
    | nop => exact h
    | init => exact h.cmdInit
    | encode => exact h.cmdEncode

/-! ### What keeps the invariant: the step -/

theorem Inv.txnEffect {t : Txn} {s' : State} (he : TxnEffect s t s') : Inv s' := by
  cases he with
  | answer r v => exact h.respond _ _
  | draw r v => exact h.update.respond _ _
  | refuseRead code hcode => exact (h.raiseError (by rintro rfl; simp at hcode)).respond _ _
  | pop b rest hfifo => exact (h.pop hfifo).respond _ _
  | ignored | clearNone => exact h
  | writeCfg | writeDim | writeKfi | writeIrqEn | writePixAddr => exact h.update
  | clearDone => exact h.clearDone
  | clearErr => exact h.clearError
  | clearBoth => exact h.clearDone.clearError
  | issue d => exact h.issueCommand d
  | refusePixel d code hcode => exact h.raiseError (by rintro rfl; simp at hcode)
  | storePixel d hbusy hvalid hrange => exact h.storePixel hvalid hrange d
  | unmapped => exact h.unmappedAccess t

end KeepsInv

/-- Reset meets the invariant for every value of the parameters within their bounds. -/
theorem inv_resetWith {canvasCap prevCap fifoDepth : Word} (hparams : parametersWf canvasCap prevCap fifoDepth = true)
    (canvasEpoch prevEpoch readDraws : Nat) (inputs : List Event) (reads : List BusRead) :
    Inv (State.resetWith canvasCap prevCap fifoDepth canvasEpoch prevEpoch readDraws inputs reads) where
  params := hparams
  fifoBound := Nat.zero_le _
  canvasForm := List.Pairwise.nil
  canvasBound := nofun
  prevForm := List.Pairwise.nil
  prevBound := nofun
  active := nofun
  session := nofun
  retained := nofun
  fresh := fun _ => ⟨rfl, rfl, rfl, rfl, rfl, rfl⟩
  doneIdle := nofun
  noError := fun _ => ⟨rfl, rfl⟩
  errorCode := nofun
  pendingBound := Nat.zero_le _
  countBound := nofun
  lengthBound := Nat.zero_le _

theorem Inv.hardReset {s : State} (h : Inv s) : Inv s.hardReset := inv_resetWith h.params ..

theorem Inv.step {s t : State} (h : Inv s) (hstep : step s = .next t) : Inv t := by
  rcases hin : s.inputs with - | ⟨tx | - | -, rest⟩
  · obtain rfl : s.engineTurn = t := by simpa [step_idle hin] using hstep
    exact h.engineTurn
  · rw [step_host hin] at hstep
    obtain ⟨s', hnext, heffect⟩ := hostTransaction_effect tx { s with inputs := rest }
    obtain rfl : s' = t := by simpa [hnext] using hstep
    exact h.update.txnEffect heffect
  · obtain rfl : { s with inputs := rest }.engineTurn = t := by simpa [step_engine hin] using hstep
    exact h.update.engineTurn
  · obtain rfl : { s with inputs := rest }.hardReset = t := by simpa [step_reset hin] using hstep
    exact h.update.hardReset

/-! ### The engine's turn, by its cases -/

theorem State.engineTurn_push {s : State} {b : Byte} {rest : List Byte} (hpending : s.pending = b :: rest)
    (hroom : s.ofifo.length < s.fifoDepth.toNat) :
    s.engineTurn = { s with
      pending := rest, ofifo := s.ofifo ++ [b], done := if rest = [] then true else s.done } := by
  obtain ⟨hdisabled, -⟩ | ⟨b', rest', hcons, -, heq⟩ := s.engineTurn_cases
  · have henabled := s.engineEnabled_iff.mpr ⟨by simp [hpending], hroom⟩
    simp [hdisabled] at henabled
  · obtain ⟨rfl, rfl⟩ : b = b' ∧ rest = rest' := by simpa [hpending] using hcons
    exact heq

theorem State.engineTurn_none {s : State} (hnone : s.pending = [] ∨ s.fifoDepth.toNat ≤ s.ofifo.length) :
    s.engineTurn = s := by
  obtain ⟨-, heq⟩ | ⟨b, rest, hpending, hroom, -⟩ := s.engineTurn_cases
  · exact heq
  · rcases hnone with hempty | hfull
    · simp [hpending] at hempty
    · omega

end Sys2Proof.Machine

section

open Sys2Proof.Machine

/-- Settles O9: reset meets the invariant for any parameters within their bounds, and the model's are. -/
theorem invariantHoldsAtReset : Obligations.InvariantHoldsAtReset :=
  inv_resetWith (by decide) ..

/-- Settles O10, by the kinds of input a step can take and, for a host transaction, the kinds of effect it has. -/
theorem everyStepKeepsTheInvariant : Obligations.EveryStepKeepsTheInvariant :=
  fun _ _ h hstep => h.step hstep

/-- Settles O53: the step without a host transaction is the engine's turn, which pushes a byte or does nothing. -/
theorem engineTurnPushesOneByte : Obligations.EngineTurnPushesOneByte :=
  fun _ => ⟨step_idle, fun _ => step_engine, fun _ _ => State.engineTurn_push, State.engineTurn_none⟩

end

/-! # The state

Settled here: the statements on reset, on the registers, on what writes the canvas, the active configuration and
`Prev`, and on the geometry of the tiles. First stands the noninterference of `Prev`, a relational argument over the
operations; after it the inversion of a step (`step_effect`) and what a transaction can do to the session
(`TxnEffect.session_cases`), from which the frame statements follow. -/

namespace Sys2Proof.Machine

/-! ### Previous tiles -/

/-- Once the tiles of a frame are retained, every byte of `Prev` in use is one of theirs. -/
theorem State.prevByte_acceptFrame {s : State} {a : Nat} (ha : a < s.prevExtent) :
    s.acceptFrame.prevByte a = s.currentTiles.getD a 0 := by
  have hlen : a < s.currentTiles.length := s.length_currentTiles ▸ ha
  have hread : s.acceptFrame.prev.read a = some s.currentTiles[a] := by
    rw [State.acceptFrame_prev, Memory.read_writePrefix, if_pos hlen, List.getElem?_eq_getElem hlen]
  rw [State.prevByte, hread, List.getD_eq_getElem _ _ hlen, Option.getD_some]

/-- A frame that is no keyframe has a valid `Prev` to be compared with (R160). -/
theorem State.prevValid_of_not_isKey {s : State} (hkey : s.isKey = false) : s.prevValid = true := by
  unfold State.isKey at hkey
  simpa using (Bool.or_eq_false_iff.mp hkey).1

/-! ### `Prev` is not observed: states that differ in `Prev` -/

/-- The state with other `Prev` contents and another draw behind them. -/
def State.withPrev (s : State) (p : Memory 8) (epoch : Nat) : State := { s with prev := p, prevEpoch := epoch }

section

variable (s : State) (p : Memory 8) (epoch : Nat)

@[simp] theorem State.withPrev_cfgValid : (s.withPrev p epoch).cfgValid = s.cfgValid := rfl
@[simp] theorem State.withPrev_pixAddr : (s.withPrev p epoch).pixAddr = s.pixAddr := rfl
@[simp] theorem State.withPrev_ofifo : (s.withPrev p epoch).ofifo = s.ofifo := rfl
@[simp] theorem State.withPrev_busy : (s.withPrev p epoch).busy = s.busy := rfl
@[simp] theorem State.withPrev_npix : (s.withPrev p epoch).npix = s.npix := rfl
@[simp] theorem State.withPrev_isKey : (s.withPrev p epoch).isKey = s.isKey := rfl
@[simp] theorem State.withPrev_stagedCheck : (s.withPrev p epoch).stagedCheck = s.stagedCheck := rfl

end

/-- A state that is alike to `s` is `s` with other `Prev` contents. -/
theorem State.alike.eq_withPrev {s t : State} (h : s.alike t) : t = s.withPrev t.prev t.prevEpoch :=
  calc t = t.forgetPrev.withPrev t.prev t.prevEpoch := rfl
    _ = s.forgetPrev.withPrev t.prev t.prevEpoch := by rw [h.1]
    _ = s.withPrev t.prev t.prevEpoch := rfl

/-- The two outcomes are next states that are alike. -/
def AlikeOutcomes (o o' : Host.Outcome State Fault Refusal) : Prop :=
  ∃ s t, o = .next s ∧ o' = .next t ∧ s.alike t

theorem State.alike.outcomes {s t : State} (h : s.alike t) : AlikeOutcomes (.next s) (.next t) :=
  ⟨s, t, rfl, rfl, h⟩

theorem State.alike.respond {s t : State} (h : s.alike t) (off : Offset) (v : Word) :
    (s.respond off v).alike (t.respond off v) :=
  ⟨congrArg (State.respond · off v) h.1, h.2⟩

/-! An operation that neither reads nor writes `Prev`, `PREV_VALID` or the active configuration gives alike states
from alike ones: their difference, and the bytes of `Prev` in use, are as they were. -/

section Alike

variable {s : State} {p : Memory 8} {epoch : Nat} (h : s.alike (s.withPrev p epoch))
include h

theorem State.alike.raiseError (code : ErrCode) :
    (s.raiseError code).alike ((s.withPrev p epoch).raiseError code) := by
  rw [State.raiseError_eq, State.raiseError_eq]
  exact ⟨rfl, h.2⟩

theorem State.alike.unmappedAccess (tx : Txn) :
    (s.unmappedAccess tx).alike ((s.withPrev p epoch).unmappedAccess tx) := by
  cases tx with
  | read off => exact (h.raiseError .eBadAddr).respond off 0
  | write off d => exact h.raiseError .eBadAddr

theorem State.alike.respondUnlessBusy (off : Offset) (v : Word) (drawn : Nat → Word) :
    (s.respondUnlessBusy off v drawn).alike ((s.withPrev p epoch).respondUnlessBusy off v drawn) := by
  cases hb : s.busy with
  | false =>
    rw [State.respondUnlessBusy_idle hb, State.respondUnlessBusy_idle (s := s.withPrev p epoch) hb]
    exact h.respond off v
  | true =>
    rw [State.respondUnlessBusy_busy hb, State.respondUnlessBusy_busy (s := s.withPrev p epoch) hb]
    exact ⟨rfl, h.2⟩

theorem State.alike.popOutput : s.popOutput.alike (s.withPrev p epoch).popOutput := by
  unfold State.popOutput
  rw [State.withPrev_ofifo]
  cases s.ofifo with
  | nil => exact h.respond _ 0
  | cons b rest => exact ⟨rfl, h.2⟩

theorem State.alike.engineTurn : s.engineTurn.alike (s.withPrev p epoch).engineTurn := by
  by_cases hroom : s.pending = [] ∨ s.fifoDepth.toNat ≤ s.ofifo.length
  · rw [State.engineTurn_none hroom, State.engineTurn_none (s := s.withPrev p epoch) hroom]
    exact h
  · obtain ⟨hpending, hroom⟩ := not_or.mp hroom
    obtain ⟨b, rest, hcons⟩ := List.exists_cons_of_ne_nil hpending
    have hroom := Nat.lt_of_not_le hroom
    rw [State.engineTurn_push hcons hroom, State.engineTurn_push (s := s.withPrev p epoch) hcons hroom]
    exact ⟨rfl, h.2⟩

theorem State.alike.writeStatus (d : Word) :
    AlikeOutcomes (execWrStatus d s) (execWrStatus d (s.withPrev p epoch)) := by
  unfold execWrStatus
  refine State.alike.outcomes ?_
  cases statusClearsDone d <;> cases statusClearsErr d <;> exact ⟨rfl, h.2⟩

theorem State.alike.readPixel : AlikeOutcomes (execRdPixData s) (execRdPixData (s.withPrev p epoch)) := by
  unfold execRdPixData
  rw [State.withPrev_cfgValid, State.withPrev_npix,
    State.withPrev_pixAddr]
  split_ifs
  · exact ((h.raiseError .eNotCfg).respond _ 0).outcomes
  · exact ((h.raiseError .ePixRange).respond _ 0).outcomes
  · exact (h.respond _ _).outcomes

theorem State.alike.writePixel (d : Word) :
    AlikeOutcomes (execWrPixData d s) (execWrPixData d (s.withPrev p epoch)) := by
  unfold execWrPixData
  rw [State.withPrev_cfgValid, State.withPrev_npix,
    State.withPrev_pixAddr, State.withPrev_busy]
  split_ifs
  · exact (h.raiseError .eBusy).outcomes
  · exact (h.raiseError .eNotCfg).outcomes
  · exact (h.raiseError .ePixRange).outcomes
  · exact State.alike.outcomes ⟨rfl, h.2⟩

/-! ### `Prev` is not observed: the commands -/

/-- After the session reset no byte of `Prev` is in use (R42). -/
theorem State.alike.cmdInit : s.cmdInit.alike (s.withPrev p epoch).cmdInit := by
  unfold State.cmdInit
  rw [State.withPrev_busy,
    State.withPrev_stagedCheck]
  split_ifs
  · exact h.raiseError .eBusy
  · exact ⟨rfl, nofun⟩
  · simp only [State.raiseError_eq]
    exact ⟨rfl, nofun⟩

/-- The tiles that a frame is compared with agree. -/
theorem State.alike.prevTile (hkey : s.isKey = false) {k : Nat} (hk : k < s.tileCount) :
    s.prevTile k = (s.withPrev p epoch).prevTile k := by
  refine List.map_congr_left fun j hj => h.2 (State.prevValid_of_not_isKey hkey) _ ?_
  have hj := List.mem_range.mp hj
  calc k * s.tileBytes + j < (k + 1) * s.tileBytes := by rw [Nat.succ_mul]; omega
    _ ≤ s.prevExtent := Nat.mul_le_mul_right _ hk

theorem State.alike.updates : s.updates = (s.withPrev p epoch).updates := by
  refine List.filter_congr fun k hk => ?_
  unfold State.changed
  rw [State.withPrev_isKey]
  cases hkey : s.isKey with
  | true => rfl
  | false =>
    rw [h.prevTile hkey (List.mem_range.mp hk)]
    rfl

theorem State.alike.record : s.record = (s.withPrev p epoch).record := by
  unfold State.record
  rw [← h.updates]
  rfl

theorem State.alike.acceptFrame : s.acceptFrame.alike (s.withPrev p epoch).acceptFrame := by
  constructor
  · unfold State.acceptFrame
    rw [← h.updates, ← h.record]
    rfl
  · intro _ a ha
    have ha : a < s.prevExtent := ha
    rw [State.prevByte_acceptFrame ha, State.prevByte_acceptFrame (s := s.withPrev p epoch) ha]
    rfl

theorem State.alike.cmdEncode : s.cmdEncode.alike (s.withPrev p epoch).cmdEncode := by
  unfold State.cmdEncode
  rw [State.withPrev_busy, State.withPrev_cfgValid]
  split_ifs
  · exact h.raiseError .eBusy
  · exact h.raiseError .eNotCfg
  · exact h.acceptFrame

theorem State.alike.issueCommand (d : Word) : (s.issueCommand d).alike ((s.withPrev p epoch).issueCommand d) := by
  unfold State.issueCommand
  cases decodeCommand d with
  | none => exact h.raiseError .eBadCmd
  | some c =>
    cases c with
    | nop => exact h
    | init => exact h.cmdInit
    | encode => exact h.cmdEncode

/-! ### `Prev` is not observed: the step -/

theorem State.alike.exec_readInstr (r : Reg) :
    AlikeOutcomes (exec r.readInstr s) (exec r.readInstr (s.withPrev p epoch)) := by
  cases r with
  | status | frameIdx | updCount | recLen => exact (h.respondUnlessBusy _ _ _).outcomes
  | outData => exact h.popOutput.outcomes
  | pixData => exact h.readPixel
  | _ => exact (h.respond _ _).outcomes

theorem State.alike.exec_writeInstr (r : Reg) (d : Word) :
    AlikeOutcomes (exec (r.writeInstr d) s) (exec (r.writeInstr d) (s.withPrev p epoch)) := by
  cases r with
  | cfg | dim | kfi | irqEn | pixAddr => exact State.alike.outcomes ⟨rfl, h.2⟩
  | cmd => exact (h.issueCommand d).outcomes
  | status => exact h.writeStatus d
  | pixData => exact h.writePixel d
  | _ => exact h.outcomes

theorem State.alike.hostTransaction (tx : Txn) :
    AlikeOutcomes (hostTransaction tx s) (hostTransaction tx (s.withPrev p epoch)) := by
  obtain ⟨r, rfl⟩ | ⟨r, d, rfl⟩ | hoff := Txn.cases tx
  · rw [hostTransaction_read, hostTransaction_read]
    exact h.exec_readInstr r
  · rw [hostTransaction_write, hostTransaction_write]
    exact h.exec_writeInstr r d
  · rw [hostTransaction_unmapped hoff, hostTransaction_unmapped hoff]
    exact (h.unmappedAccess tx).outcomes

theorem State.alike.step_withPrev : AlikeOutcomes (step s) (step (s.withPrev p epoch)) := by
  have hrest (rest : List Event) : ({ s with inputs := rest }).alike ({ s with inputs := rest }.withPrev p epoch) :=
    ⟨rfl, h.2⟩
  rcases hin : s.inputs with - | ⟨tx | - | -, rest⟩
  · rw [step_idle hin, step_idle (s := s.withPrev p epoch) hin]
    exact h.engineTurn.outcomes
  · rw [step_host hin, step_host (s := s.withPrev p epoch) hin]
    exact (hrest rest).hostTransaction tx
  · rw [step_engine hin, step_engine (s := s.withPrev p epoch) hin]
    exact (hrest rest).engineTurn.outcomes
  · rw [step_reset hin, step_reset (s := s.withPrev p epoch) hin]
    exact State.alike.outcomes ⟨rfl, nofun⟩

end Alike

/-- Alike states step to alike states. -/
theorem State.alike.step {s t s' t' : State} (h : s.alike t) (hs : step s = .next s') (ht : step t = .next t') :
    s'.alike t' := by
  obtain ⟨p, epoch, rfl⟩ : ∃ p epoch, t = s.withPrev p epoch := ⟨_, _, h.eq_withPrev⟩
  obtain ⟨u, u', hu, hu', halike⟩ := h.step_withPrev
  obtain rfl : u = s' := by simpa [hu] using hs
  obtain rfl : u' = t' := by simpa [hu'] using ht
  exact halike

/-! ### What a step can do -/

/-- What a write of `CMD` can do (R210), by its data word. -/
inductive CommandEffect (s : State) : Word → State → Prop
  | nop : CommandEffect s 0 s
  /-- A reserved word, a command while busy, or an ENCODE without a configuration. -/
  | refuse (d : Word) (code : ErrCode) (hcode : code = .eBadCmd ∨ code = .eBusy ∨ code = .eNotCfg) :
      CommandEffect s d (s.raiseError code)
  /-- An INIT whose check passes (R213). -/
  | startSession (hbusy : s.busy = false) (hcheck : s.stagedCheck = .eNone) :
      CommandEffect s 1 s.sessionReset.latchConfig
  /-- An INIT whose check fails (R213). -/
  | failSession (hbusy : s.busy = false) (hcheck : s.stagedCheck ≠ .eNone) :
      CommandEffect s 1 ({ s.sessionReset with cfgValid := false }.raiseError s.stagedCheck)
  /-- An ENCODE that is accepted (R216). -/
  | acceptFrame (hbusy : s.busy = false) (hvalid : s.cfgValid = true) : CommandEffect s 2 s.acceptFrame

theorem State.cmdInit_effect (s : State) : CommandEffect s 1 s.cmdInit := by
  obtain ⟨-, heq⟩ | ⟨hbusy, hcheck, heq⟩ | ⟨hbusy, hcheck, heq⟩ := s.cmdInit_cases <;> rw [heq]
  · exact .refuse 1 .eBusy (by simp)
  · exact .startSession hbusy hcheck
  · exact .failSession hbusy hcheck

theorem State.cmdEncode_effect (s : State) : CommandEffect s 2 s.cmdEncode := by
  obtain ⟨-, heq⟩ | ⟨-, -, heq⟩ | ⟨hbusy, hvalid, heq⟩ := s.cmdEncode_cases <;> rw [heq]
  · exact .refuse 2 .eBusy (by simp)
  · exact .refuse 2 .eNotCfg (by simp)
  · exact .acceptFrame hbusy hvalid

theorem State.issueCommand_effect (s : State) (d : Word) : CommandEffect s d (s.issueCommand d) := by
  unfold State.issueCommand
  by_cases h0 : d = 0
  · subst h0
    exact Laws.decodeCommand_nop ▸ .nop
  by_cases h1 : d = 1
  · subst h1
    exact Laws.decodeCommand_init ▸ s.cmdInit_effect
  by_cases h2 : d = 2
  · subst h2
    exact Laws.decodeCommand_encode ▸ s.cmdEncode_effect
  rw [Laws.decodeCommand_reserved h0 h1 h2]
  exact .refuse d .eBadCmd (by simp)

/-- What a step can do, by its input: with none left, as with the engine's own, the engine has its turn. -/
inductive StepEffect (s : State) : State → Prop
  | engine (rest : List Event) (hin : s.inputs = [] ∧ rest = [] ∨ s.inputs = .engine :: rest) :
      StepEffect s { s with inputs := rest }.engineTurn
  | host (tx : Txn) (rest : List Event) (hin : s.inputs = .host tx :: rest) (t : State)
      (heffect : TxnEffect { s with inputs := rest } tx t) : StepEffect s t
  | reset (rest : List Event) (hin : s.inputs = .reset :: rest) : StepEffect s { s with inputs := rest }.hardReset

theorem step_effect {s t : State} (hstep : step s = .next t) : StepEffect s t := by
  rcases hin : s.inputs with - | ⟨tx | - | -, rest⟩
  · obtain rfl : s.engineTurn = t := by simpa [step_idle hin] using hstep
    have hself : { s with inputs := [] } = s := by rw [← hin]
    have heffect := StepEffect.engine [] (.inl ⟨hin, rfl⟩)
    rwa [hself] at heffect
  · obtain ⟨s', hnext, heffect⟩ := hostTransaction_effect tx { s with inputs := rest }
    obtain rfl : s' = t := by simpa [step_host hin, hnext] using hstep
    exact .host tx rest hin s' heffect
  · obtain rfl : { s with inputs := rest }.engineTurn = t := by simpa [step_engine hin] using hstep
    exact .engine rest (.inr hin)
  · obtain rfl : { s with inputs := rest }.hardReset = t := by simpa [step_reset hin] using hstep
    exact .reset rest hin

/-! ### The parameters and the registers the host writes -/

/-- The parameters and the registers that the host can write are the same. -/
structure SameHostRegs (s t : State) : Prop where
  canvasCap : t.canvasCap = s.canvasCap
  prevCap : t.prevCap = s.prevCap
  fifoDepth : t.fifoDepth = s.fifoDepth
  cfg : t.cfg = s.cfg
  dim : t.dim = s.dim
  kfi : t.kfi = s.kfi
  irqEn : t.irqEn = s.irqEn
  pixAddr : t.pixAddr = s.pixAddr

theorem CommandEffect.sameHostRegs {s t : State} {d : Word} (he : CommandEffect s d t) : SameHostRegs s t := by
  cases he <;> constructor <;> simp

theorem State.engineTurn_sameHostRegs (s : State) : SameHostRegs s s.engineTurn := by
  obtain ⟨-, heq⟩ | ⟨b, rest, -, -, heq⟩ := s.engineTurn_cases <;> rw [heq] <;> constructor <;> rfl

/-- What the transaction `tx` may change of the parameters and the registers that the host can write. -/
structure WritesOwnRegister (s : State) (tx : Txn) (t : State) : Prop where
  canvasCap : t.canvasCap = s.canvasCap
  prevCap : t.prevCap = s.prevCap
  fifoDepth : t.fifoDepth = s.fifoDepth
  cfg : t.cfg ≠ s.cfg → ∃ d, tx = .write Reg.cfg.offset d
  dim : t.dim ≠ s.dim → ∃ d, tx = .write Reg.dim.offset d
  kfi : t.kfi ≠ s.kfi → ∃ d, tx = .write Reg.kfi.offset d
  irqEn : t.irqEn ≠ s.irqEn → ∃ d, tx = .write Reg.irqEn.offset d
  pixAddr : t.pixAddr ≠ s.pixAddr → (∃ d, tx = .write Reg.pixAddr.offset d) ∨
    (∃ d, tx = .write Reg.pixData.offset d) ∧ s.busy = false ∧ s.cfgValid = true ∧ s.pixAddr.toNat < s.npix

theorem State.raiseError_sameHostRegs (s : State) (code : ErrCode) : SameHostRegs s (s.raiseError code) := by
  constructor <;> simp

theorem State.unmappedAccess_sameHostRegs (s : State) (tx : Txn) : SameHostRegs s (s.unmappedAccess tx) := by
  cases tx with
  | read off => exact { s.raiseError_sameHostRegs .eBadAddr with }
  | write off d => exact s.raiseError_sameHostRegs .eBadAddr

theorem SameHostRegs.writesOwnRegister {s t : State} (h : SameHostRegs s t) (tx : Txn) : WritesOwnRegister s tx t where
  canvasCap := h.canvasCap
  prevCap := h.prevCap
  fifoDepth := h.fifoDepth
  cfg := absurd h.cfg
  dim := absurd h.dim
  kfi := absurd h.kfi
  irqEn := absurd h.irqEn
  pixAddr := absurd h.pixAddr

theorem TxnEffect.writesOwnRegister {s t : State} {tx : Txn} (he : TxnEffect s tx t) : WritesOwnRegister s tx t := by
  cases he with
  | issue d => exact (s.issueCommand_effect d).sameHostRegs.writesOwnRegister _
  | unmapped => exact (s.unmappedAccess_sameHostRegs tx).writesOwnRegister tx
  | storePixel d hbusy hvalid hrange =>
    exact ⟨rfl, rfl, rfl, absurd rfl, absurd rfl, absurd rfl, absurd rfl,
      fun _ => .inr ⟨⟨d, rfl⟩, hbusy, hvalid, hrange⟩⟩
  | _ => constructor <;> simp

/-! ### The session: the canvas, the active configuration and `Prev` -/

/-- The canvas, the active configuration with its validity, and `Prev` are the same. -/
structure SameSession (s t : State) : Prop where
  canvas : t.canvas = s.canvas
  canvasEpoch : t.canvasEpoch = s.canvasEpoch
  actCfg : t.actCfg = s.actCfg
  actDim : t.actDim = s.actDim
  actKfi : t.actKfi = s.actKfi
  cfgValid : t.cfgValid = s.cfgValid
  prev : t.prev = s.prev
  prevEpoch : t.prevEpoch = s.prevEpoch

theorem SameSession.canvasAt {s t : State} (h : SameSession s t) (i : Nat) : t.canvasAt i = s.canvasAt i := by
  simp [State.canvasAt, h.canvas, h.canvasEpoch]

theorem SameSession.prevByte {s t : State} (h : SameSession s t) (a : Nat) : t.prevByte a = s.prevByte a := by
  simp [State.prevByte, h.prev, h.prevEpoch]

/-- The engine's turn keeps the session, and the record in progress but for a byte it pushes. -/
theorem State.engineTurn_sameSession (s : State) :
    SameSession s s.engineTurn ∧
      (s.engineTurn.pending = s.pending ∨
        ∃ b, s.pending = b :: s.engineTurn.pending ∧ s.engineTurn.ofifo = s.ofifo ++ [b]) := by
  obtain ⟨-, heq⟩ | ⟨b, rest, hpending, -, heq⟩ := s.engineTurn_cases <;> rw [heq]
  · exact ⟨by constructor <;> rfl, .inl rfl⟩
  · exact ⟨by constructor <;> rfl, .inr ⟨b, hpending, rfl⟩⟩

/-- A transaction keeps the session and the record in progress, but for an accepted pixel and a command. -/
theorem TxnEffect.session_cases {s t : State} {tx : Txn} (he : TxnEffect s tx t) :
    (SameSession s t ∧ t.pending = s.pending) ∨
    (∃ d, tx = .write Reg.pixData.offset d ∧ s.busy = false ∧ s.cfgValid = true ∧ s.pixAddr.toNat < s.npix ∧
      t = s.storePixel d) ∨
    ∃ d, tx = .write Reg.cmd.offset d ∧ CommandEffect s d t := by
  cases he with
  | issue d => exact .inr (.inr ⟨d, rfl, s.issueCommand_effect d⟩)
  | storePixel d hbusy hvalid hrange => exact .inr (.inl ⟨d, rfl, hbusy, hvalid, hrange, rfl⟩)
  | unmapped =>
    left
    cases tx <;> exact ⟨by constructor <;> simp [State.unmappedAccess], by simp [State.unmappedAccess]⟩
  | _ => exact .inl ⟨by constructor <;> simp, by simp⟩

theorem CommandEffect.canvasAt {s t : State} {d : Word} (he : CommandEffect s d t) (i : Nat) :
    t.canvasAt i = s.canvasAt i := by
  cases he <;> simp [State.canvasAt]

theorem CommandEffect.sameSession_of_busy {s t : State} {d : Word} (he : CommandEffect s d t) (hb : s.busy = true) :
    SameSession s t ∧ t.pending = s.pending := by
  cases he with
  | nop => exact ⟨by constructor <;> rfl, rfl⟩
  | refuse d code => exact ⟨by constructor <;> simp, by simp⟩
  | startSession hidle | failSession hidle | acceptFrame hidle => simp [hb] at hidle

theorem TxnEffect.sameSession_of_busy {s t : State} {tx : Txn} (he : TxnEffect s tx t) (hb : s.busy = true) :
    SameSession s t ∧ t.pending = s.pending := by
  obtain hsame | ⟨d, -, hidle, -⟩ | ⟨d, -, hcmd⟩ := he.session_cases
  · exact hsame
  · simp [hb] at hidle
  · exact hcmd.sameSession_of_busy hb

/-- While busy a step other than reset keeps the session, and the record in progress but for a byte it pushes. -/
theorem step_sameSession_of_busy {s t : State} (hb : s.busy = true) (hreset : ¬ s.nextIsReset)
    (hstep : step s = .next t) :
    SameSession s t ∧ (t.pending = s.pending ∨ ∃ b, s.pending = b :: t.pending ∧ t.ofifo = s.ofifo ++ [b]) := by
  cases step_effect hstep with
  | engine rest =>
    obtain ⟨hsame, hpushed⟩ := State.engineTurn_sameSession { s with inputs := rest }
    exact ⟨{ hsame with }, hpushed⟩
  | reset rest hin => exact absurd ⟨rest, hin⟩ hreset
  | host tx rest hin _ heffect =>
    obtain ⟨hsame, hpending⟩ := heffect.sameSession_of_busy hb
    exact ⟨{ hsame with }, .inl hpending⟩

/-- Only an INIT whose check passes writes the active configuration. -/
theorem CommandEffect.activeConfig_cases {s t : State} {d : Word} (he : CommandEffect s d t) :
    (t.actCfg = s.actCfg ∧ t.actDim = s.actDim ∧ t.actKfi = s.actKfi) ∨
      d = 1 ∧ s.busy = false ∧ t.cfgValid = true := by
  cases he with
  | startSession hidle => exact .inr ⟨rfl, hidle, rfl⟩
  | _ => simp

/-! ### Storing a pixel -/

theorem execWrPixData_accept {s : State} (d : Word) (hpending : s.pending = []) (hvalid : s.cfgValid = true)
    (hrange : s.pixAddr.toNat < s.npix) : execWrPixData d s = .next (s.storePixel d) := by
  unfold execWrPixData
  simp [State.busy_eq_false.mpr hpending, hvalid, hrange]

theorem execWrPixData_busy {s : State} (d : Word) (hb : s.busy = true) :
    execWrPixData d s = .next (s.raiseError .eBusy) := by
  simp [execWrPixData, hb]

@[simp] theorem State.canvasAt_storePixel_same (s : State) (d : Word) :
    (s.storePixel d).canvasAt s.pixAddr.toNat = s.actCfg.quantize d :=
  s.canvasAt_writeCanvas_same _ _

theorem State.canvasAt_storePixel_other (s : State) (d : Word) {j : Nat} (h : j ≠ s.pixAddr.toNat) :
    (s.storePixel d).canvasAt j = s.canvasAt j :=
  s.canvasAt_writeCanvas_other _ h

/-! ### The commands, case by case -/

theorem State.cmdInit_busy {s : State} (hb : s.busy = true) : s.cmdInit = s.raiseError .eBusy := by
  simp [State.cmdInit, hb]

theorem State.cmdInit_pass {s : State} (hb : s.busy = false) (hcheck : s.stagedCheck = .eNone) :
    s.cmdInit = s.sessionReset.latchConfig := by
  simp [State.cmdInit, hb, hcheck]

theorem State.cmdInit_fail {s : State} (hb : s.busy = false) (hcheck : s.stagedCheck ≠ .eNone) :
    s.cmdInit = { s.sessionReset with cfgValid := false }.raiseError s.stagedCheck := by
  simp [State.cmdInit, hb, hcheck]

theorem State.cmdEncode_busy {s : State} (hb : s.busy = true) : s.cmdEncode = s.raiseError .eBusy := by
  simp [State.cmdEncode, hb]

/-- The answer with the value in another form. -/
theorem next_respond_eq (s : State) (off : Offset) {v w : Word} (h : v = w) :
    (.next (s.respond off v) : Host.Outcome State Fault Refusal) =
      .next { s with reads := s.reads ++ [⟨off, w⟩] } :=
  h ▸ rfl

/-! ### Register words as numbers -/

theorem CfgReg.toWord_eq (c : CfgReg) :
    c.toWord = BitVec.ofNat 32 (c.bpp.toNat + 16 * c.direct.toNat + 32 * c.recfmt.toNat) := by
  have hall : ∀ (bpp : BitVec 4) (direct recfmt : Bool), CfgReg.toWord ⟨bpp, direct, recfmt⟩ =
    BitVec.ofNat 32 (bpp.toNat + 16 * direct.toNat + 32 * recfmt.toNat) := by decide
  exact hall c.bpp c.direct c.recfmt

theorem IrqEnReg.toWord_eq (e : IrqEnReg) : e.toWord = BitVec.ofNat 32 (e.doneIe.toNat + 2 * e.errIe.toNat) := by
  have hall : ∀ doneIe errIe : Bool, IrqEnReg.toWord ⟨doneIe, errIe⟩ =
    BitVec.ofNat 32 (doneIe.toNat + 2 * errIe.toNat) := by decide
  exact hall e.doneIe e.errIe

/-- Two 16-bit halves as one word, the high one first. -/
theorem append_eq_ofNat (high low : BitVec 16) : high ++ low = BitVec.ofNat 32 (low.toNat + 65536 * high.toNat) := by
  apply BitVec.eq_of_toNat_eq
  rw [BitVec.toNat_append, ← Nat.shiftLeft_add_eq_or_of_lt low.isLt, Nat.shiftLeft_eq, BitVec.toNat_ofNat]
  omega

theorem DimReg.toWord_eq (d : DimReg) : d.toWord = BitVec.ofNat 32 (d.width.toNat + 65536 * d.height.toNat) :=
  append_eq_ofNat d.height d.width

theorem DimReg.tilesWord_eq (d : DimReg) :
    d.tilesWord = BitVec.ofNat 32 (d.width.toNat / 8 + 65536 * (d.height.toNat / 8)) := by
  unfold DimReg.tilesWord DimReg.tilesX DimReg.tilesY
  rw [append_eq_ofNat, BitVec.toNat_ofNat, BitVec.toNat_ofNat, Nat.mod_eq_of_lt (by omega), Nat.mod_eq_of_lt (by omega)]

theorem kfiToWord_eq (k : BitVec 16) : kfiToWord k = BitVec.ofNat 32 k.toNat := by
  unfold kfiToWord
  exact (BitVec.ofNat_toNat 32 k).symm

/-! ### What a register reads after it is written -/

theorem toNat_getLsbD (d : Word) (i : Nat) : (d.getLsbD i).toNat = d.toNat / 2 ^ i % 2 :=
  Nat.toNat_testBit d.toNat i

/-- The low `n` bits of a word, as a remainder and as a mask. -/
theorem ofNat_mod_eq_and_mask (d : Word) {n : Nat} (hn : n ≤ 32) :
    BitVec.ofNat 32 (d.toNat % 2 ^ n) = d &&& BitVec.ofNat 32 (2 ^ n - 1) := by
  have hmask : 2 ^ n - 1 < 2 ^ 32 := (Nat.sub_one_lt (by positivity)).trans_le (Nat.pow_le_pow_right (by decide) hn)
  apply BitVec.eq_of_toNat_eq
  rw [BitVec.toNat_and, BitVec.toNat_ofNat, BitVec.toNat_ofNat, Nat.mod_eq_of_lt hmask,
    Nat.and_two_pow_sub_one_eq_mod, Nat.mod_eq_of_lt ((Nat.mod_le _ _).trans_lt d.isLt)]

theorem CfgReg.toWord_ofWord (d : Word) : (CfgReg.ofWord d).toWord = d &&& 0x0000003F := by
  have hfields : d.toNat % 2 ^ 4 + 16 * (d.toNat / 2 ^ 4 % 2) + 32 * (d.toNat / 2 ^ 5 % 2) = d.toNat % 2 ^ 6 := by omega
  rw [CfgReg.toWord_eq, CfgReg.ofWord, BitVec.extractLsb'_toNat, Nat.shiftRight_zero, toNat_getLsbD, toNat_getLsbD,
    hfields]
  exact ofNat_mod_eq_and_mask d (by decide)

theorem IrqEnReg.toWord_ofWord (d : Word) : (IrqEnReg.ofWord d).toWord = d &&& 0x00000003 := by
  have hfields : d.toNat / 2 ^ 0 % 2 + 2 * (d.toNat / 2 ^ 1 % 2) = d.toNat % 2 ^ 2 := by omega
  rw [IrqEnReg.toWord_eq, IrqEnReg.ofWord, toNat_getLsbD, toNat_getLsbD, hfields]
  exact ofNat_mod_eq_and_mask d (by decide)

theorem DimReg.toWord_ofWord (d : Word) : (DimReg.ofWord d).toWord = d := by
  have hfields : d.toNat % 2 ^ 16 + 65536 * (d.toNat / 2 ^ 16 % 2 ^ 16) = d.toNat := by omega
  rw [DimReg.toWord_eq, DimReg.ofWord, BitVec.extractLsb'_toNat, BitVec.extractLsb'_toNat, Nat.shiftRight_zero,
    Nat.shiftRight_eq_div_pow, hfields, BitVec.ofNat_toNat, BitVec.setWidth_eq]

theorem kfiToWord_kfiOfWord (d : Word) : kfiToWord (kfiOfWord d) = d &&& 0x0000FFFF := by
  rw [kfiToWord_eq, kfiOfWord, BitVec.extractLsb'_toNat, Nat.shiftRight_zero]
  exact ofNat_mod_eq_and_mask d (by decide)

/-! ### The `STATUS` word -/

theorem State.busy_eq_decide (s : State) : s.busy = decide (s.pending ≠ []) := by
  cases h : s.pending <;> simp [State.busy, h]

/-- Every bit of the `STATUS` word (R28, R244). -/
theorem State.getLsbD_statusWord (s : State) (prevValid lastKey : Bool) (i : Nat) :
    (s.statusWord prevValid lastKey).getLsbD i =
      match i with
      | 0 => s.busy
      | 1 => s.cfgValid
      | 2 => s.done
      | 3 => s.err
      | 4 => lastKey
      | 5 => prevValid
      | 6 => s.errMulti
      | 7 => false
      | i + 8 => s.errCode.toBits.getLsbD i := by
  unfold State.statusWord
  iterate 9 rw [BitVec.getLsbD_append]
  rcases i with _ | _ | _ | _ | _ | _ | _ | _ | i <;> simp
  exact BitVec.lt_of_getLsbD

theorem State.statusWord_errCode (s : State) (prevValid lastKey : Bool) :
    (s.statusWord prevValid lastKey).extractLsb' 8 8 = s.errCode.toBits := by
  ext i hi
  rw [BitVec.getElem_extractLsb', Nat.add_comm, State.getLsbD_statusWord]
  exact BitVec.getLsbD_eq_getElem hi

theorem State.statusWord_reserved (s : State) (prevValid lastKey : Bool) :
    (s.statusWord prevValid lastKey).extractLsb' 16 16 = 0 := by
  ext i hi
  rw [BitVec.getElem_extractLsb', show 16 + i = (i + 8) + 8 by omega, State.getLsbD_statusWord]
  exact (BitVec.getLsbD_of_ge _ _ (by omega)).trans (by simp)

/-- A read of `STATUS` answers with the flags' own values of bits 5 and 4 while idle, and with draws while busy. -/
theorem execRdStatus_answer (s : State) : ∃ prevValid lastKey : Bool,
    execRdStatus s = .next { s with
      readDraws := if s.pending = [] then s.readDraws else s.readDraws + 1
      reads := s.reads ++ [⟨Reg.status.offset, s.statusWord prevValid lastKey⟩] } ∧
    (s.pending = [] → lastKey = s.lastKey ∧ prevValid = s.prevValid) ∧
    (s.pending ≠ [] → lastKey = Config.busyLastKey s.readDraws ∧ prevValid = Config.busyPrevValid s.readDraws) := by
  by_cases hp : s.pending = []
  · refine ⟨s.prevValid, s.lastKey, ?_, fun _ => ⟨rfl, rfl⟩, absurd hp⟩
    rw [execRdStatus, State.respondUnlessBusy_idle (State.busy_eq_false.mpr hp), if_pos hp]
    rfl
  · refine ⟨Config.busyPrevValid s.readDraws, Config.busyLastKey s.readDraws, ?_, fun h => absurd h hp,
      fun _ => ⟨rfl, rfl⟩⟩
    rw [execRdStatus, State.respondUnlessBusy_busy (State.busy_eq_true.mpr hp), if_neg hp]
    rfl

/-! ### The geometry of the tiles -/

theorem CfgReg.tileBytes_eq (c : CfgReg) :
    c.tileBytes =
      if c.direct = false ∧ c.bpp.toNat ∈ [1, 2, 4, 8] then 8 * c.bpp.toNat
      else if c.direct = true ∧ c.bpp.toNat = 8 then 64
      else if c.direct = true ∧ c.bpp.toNat = 9 then 128
      else 0 := by
  have hall : ∀ (bpp : BitVec 4) (direct recfmt : Bool), CfgReg.tileBytes ⟨bpp, direct, recfmt⟩ =
      if direct = false ∧ bpp.toNat ∈ [1, 2, 4, 8] then 8 * bpp.toNat
      else if direct = true ∧ bpp.toNat = 8 then 64
      else if direct = true ∧ bpp.toNat = 9 then 128
      else 0 := by decide
  exact hall c.bpp c.direct c.recfmt

theorem State.ofNat_tileBytes (s : State) :
    BitVec.ofNat 32 s.tileBytes =
      if s.actCfg.direct = false ∧ s.actCfg.bpp.toNat ∈ [1, 2, 4, 8] then BitVec.ofNat 32 (8 * s.actCfg.bpp.toNat)
      else if s.actCfg.direct = true ∧ s.actCfg.bpp.toNat = 8 then 64
      else if s.actCfg.direct = true ∧ s.actCfg.bpp.toNat = 9 then 128
      else 0 := by
  unfold State.tileBytes
  rw [CfgReg.tileBytes_eq]
  split_ifs <;> rfl

theorem DimReg.tileCount_lt (d : DimReg) : d.tileCount < 2 ^ 32 := by
  have hw := d.width.isLt
  have hh := d.height.isLt
  calc d.tileCount ≤ 2 ^ 13 * 2 ^ 13 := by
        unfold DimReg.tileCount DimReg.tilesX DimReg.tilesY
        exact Nat.mul_le_mul (by omega) (by omega)
    _ < 2 ^ 32 := by decide

/-! ### The pixels of the tiles

On a canvas of whole tiles, pixel number `p` of tile `t` stands in column `t % TILES_X * 8 + p % 8` and in row
`t / TILES_X * 8 + p / 8`, and its index is `row * WIDTH + column`. -/

section TilePixels

variable {d : DimReg} (hwidth : d.width.toNat % 8 = 0)
include hwidth

theorem DimReg.width_eq : d.width.toNat = d.tilesX * 8 := by
  unfold DimReg.tilesX
  omega

theorem DimReg.tilePixel_of_coordinates {x : Nat} (y : Nat) (hx : x < d.width.toNat) :
    d.tilePixel (y / 8 * d.tilesX + x / 8) (y % 8 * 8 + x % 8) = y * d.width.toNat + x := by
  have hcol : x / 8 < d.tilesX := by
    have := DimReg.width_eq hwidth
    omega
  have hdiv : (y / 8 * d.tilesX + x / 8) / d.tilesX = y / 8 := by
    rw [Nat.mul_comm, Nat.mul_add_div (by omega), Nat.div_eq_of_lt hcol, Nat.add_zero]
  have hmod : (y / 8 * d.tilesX + x / 8) % d.tilesX = x / 8 := by
    rw [Nat.mul_comm, Nat.mul_add_mod, Nat.mod_eq_of_lt hcol]
  unfold DimReg.tilePixel DimReg.pixelIndex
  rw [hdiv, hmod]
  congr 2 <;> omega

section OneTile

variable {t : Nat} (ht : t < d.tileCount)
include ht

theorem DimReg.tileColumn_lt (p : Nat) : t % d.tilesX * 8 + p % 8 < d.width.toNat := by
  have hpos : 0 < d.tilesX := Nat.pos_of_ne_zero fun h => by simp [DimReg.tileCount, h] at ht
  have hmod := Nat.mod_lt t hpos
  rw [DimReg.width_eq hwidth]
  omega

theorem DimReg.tilePixel_lt {p : Nat} (hp : p < 64) : d.tilePixel t p < d.npix := by
  have hcol := DimReg.tileColumn_lt hwidth ht p
  have hrow : t / d.tilesX * 8 + p / 8 < d.height.toNat := by
    have htileRow : t / d.tilesX < d.tilesY := Nat.div_lt_of_lt_mul ht
    unfold DimReg.tilesY at htileRow
    omega
  calc d.tilePixel t p < (t / d.tilesX * 8 + p / 8 + 1) * d.width.toNat := by
        rw [Nat.succ_mul]
        exact Nat.add_lt_add_left hcol _
    _ ≤ d.height.toNat * d.width.toNat := Nat.mul_le_mul_right _ hrow
    _ = d.npix := Nat.mul_comm ..

/-- The tile and the number of a pixel, back from its index. -/
theorem DimReg.tile_of_tilePixel {p : Nat} (hp : p < 64) :
    t = d.tilePixel t p / d.width.toNat / 8 * d.tilesX + d.tilePixel t p % d.width.toNat / 8 ∧
      p = d.tilePixel t p / d.width.toNat % 8 * 8 + d.tilePixel t p % d.width.toNat % 8 := by
  have hcol := DimReg.tileColumn_lt hwidth ht p
  have hrowOf : d.tilePixel t p / d.width.toNat = t / d.tilesX * 8 + p / 8 := by
    unfold DimReg.tilePixel DimReg.pixelIndex
    rw [Nat.mul_comm, Nat.mul_add_div (by omega), Nat.div_eq_of_lt hcol, Nat.add_zero]
  have hcolOf : d.tilePixel t p % d.width.toNat = t % d.tilesX * 8 + p % 8 := by
    unfold DimReg.tilePixel DimReg.pixelIndex
    rw [Nat.mul_comm, Nat.mul_add_mod, Nat.mod_eq_of_lt hcol]
  have htileRow : (t / d.tilesX * 8 + p / 8) / 8 = t / d.tilesX := by omega
  have htileCol : (t % d.tilesX * 8 + p % 8) / 8 = t % d.tilesX := by omega
  rw [hrowOf, hcolOf, htileRow, htileCol]
  exact ⟨(Nat.div_add_mod' t d.tilesX).symm, by omega⟩

end OneTile

theorem DimReg.tilePixel_inj {t p t' p' : Nat} (ht : t < d.tileCount) (hp : p < 64) (ht' : t' < d.tileCount)
    (hp' : p' < 64) (heq : d.tilePixel t p = d.tilePixel t' p') : t = t' ∧ p = p' := by
  obtain ⟨htile, hpixel⟩ := DimReg.tile_of_tilePixel hwidth ht hp
  obtain ⟨htile', hpixel'⟩ := DimReg.tile_of_tilePixel hwidth ht' hp'
  rw [← heq] at htile' hpixel'
  exact ⟨htile.trans htile'.symm, hpixel.trans hpixel'.symm⟩

end TilePixels

end Sys2Proof.Machine

section

open Sys2Proof Sys2Proof.Machine

/-- Settles O39: an alike state is one with other `Prev` contents, and every operation takes both to alike states; an
ENCODE reads `Prev` only where it is valid and in use. -/
theorem previousTilesAreUnobservable : Obligations.PreviousTilesAreUnobservable :=
  fun _ _ _ _ => State.alike.step

/-- Settles O22: of the effects of a step only a register's own write, reset, and a stored pixel change a register the
host can write. -/
theorem registersChangeOnlyByTheirOwnWrites : Obligations.RegistersChangeOnlyByTheirOwnWrites := by
  intro s t hstep
  cases step_effect hstep with
  | engine rest =>
    have hsame := State.engineTurn_sameHostRegs { s with inputs := rest }
    exact ⟨hsame.canvasCap, hsame.prevCap, hsame.fifoDepth, absurd hsame.cfg, absurd hsame.dim, absurd hsame.kfi,
      absurd hsame.irqEn, absurd hsame.pixAddr⟩
  | reset rest hin =>
    have hreset : s.nextIsReset := ⟨rest, hin⟩
    exact ⟨rfl, rfl, rfl, fun _ => .inl hreset, fun _ => .inl hreset, fun _ => .inl hreset, fun _ => .inl hreset,
      fun _ => .inl hreset⟩
  | host tx rest hin _ heffect =>
    obtain ⟨hcanvas, hprev, hfifo, hcfg, hdim, hkfi, hirq, hpix⟩ := heffect.writesOwnRegister
    have hown {off : Offset} (hw : ∃ d, tx = .write off d) : ∃ d, s.nextIs (.write off d) := by
      obtain ⟨d, rfl⟩ := hw
      exact ⟨d, rest, hin⟩
    exact ⟨hcanvas, hprev, hfifo, fun h => .inr (hown (hcfg h)), fun h => .inr (hown (hdim h)),
      fun h => .inr (hown (hkfi h)), fun h => .inr (hown (hirq h)), fun h => .inr ((hpix h).imp hown (.imp_left hown))⟩

/-- Settles O25: an accepted pixel is `State.storePixel`, a write of the one cell at `PIX_ADDR`. -/
theorem pixelWriteStoresOneSample : Obligations.PixelWriteStoresOneSample := by
  intro s d hpending hvalid hrange
  exact ⟨s.storePixel d, execWrPixData_accept d hpending hvalid hrange, rfl, s.canvasAt_storePixel_same d,
    fun j => s.canvasAt_storePixel_other d, rfl⟩

/-- Settles O30: of the effects of a step only reset and a stored pixel change a sample. -/
theorem canvasIsWrittenOnlyThroughThePixelPort : Obligations.CanvasIsWrittenOnlyThroughThePixelPort := by
  intro s t i hstep hreset hdiff
  cases step_effect hstep with
  | engine rest => exact absurd ((State.engineTurn_sameSession _).1.canvasAt i) hdiff
  | reset rest hin => exact absurd ⟨rest, hin⟩ hreset
  | host tx rest hin _ heffect =>
    obtain ⟨hsame, -⟩ | ⟨d, rfl, hbusy, hvalid, hrange, rfl⟩ | ⟨d, -, hcmd⟩ := heffect.session_cases
    · exact absurd (hsame.canvasAt i) hdiff
    · refine ⟨⟨⟨d, rest, hin⟩, hbusy, hvalid, hrange⟩, ?_⟩
      by_contra hi
      exact hdiff (State.canvasAt_storePixel_other _ d hi)
    · exact absurd (hcmd.canvasAt i) hdiff

/-- Settles O52: of the effects of a step only reset and an INIT whose check passes write the active configuration. -/
theorem activeConfigurationChangesOnlyByInit : Obligations.ActiveConfigurationChangesOnlyByInit := by
  intro s t hstep hdiff
  have hkeeps : ¬ (t.actCfg = s.actCfg ∧ t.actDim = s.actDim ∧ t.actKfi = s.actKfi) := by tauto
  cases step_effect hstep with
  | engine rest =>
    obtain ⟨hsame, -⟩ := State.engineTurn_sameSession { s with inputs := rest }
    exact absurd ⟨hsame.actCfg, hsame.actDim, hsame.actKfi⟩ hkeeps
  | reset rest hin => exact .inl ⟨rest, hin⟩
  | host tx rest hin _ heffect =>
    obtain ⟨hsame, -⟩ | ⟨d, -, -, -, -, rfl⟩ | ⟨d, rfl, hcmd⟩ := heffect.session_cases
    · exact absurd ⟨hsame.actCfg, hsame.actDim, hsame.actKfi⟩ hkeeps
    · exact absurd ⟨rfl, rfl, rfl⟩ hkeeps
    · obtain hact | ⟨rfl, hidle, hvalid⟩ := hcmd.activeConfig_cases
      · exact absurd hact hkeeps
      · exact .inr ⟨⟨⟨rest, hin⟩, hidle⟩, hvalid⟩

/-- Settles O59: while busy a transaction keeps the session and the record, and the engine only pushes. -/
theorem busyWindowRefusesAndFreezes : Obligations.BusyWindowRefusesAndFreezes := by
  intro s t d hpending
  have hbusy : s.busy = true := State.busy_eq_true.mpr hpending
  refine ⟨congrArg _ (State.cmdInit_busy hbusy), congrArg _ (State.cmdEncode_busy hbusy),
    execWrPixData_busy d hbusy, fun hstep hreset => ?_⟩
  obtain ⟨hsame, hrecord⟩ := step_sameSession_of_busy hbusy hreset hstep
  exact ⟨hsame.canvas, hsame.canvasAt, hsame.actCfg, hsame.actDim, hsame.actKfi, hsame.cfgValid, hsame.prev,
    hsame.prevByte, hrecord⟩

/-- Settles O7, by evaluation of the reset state. -/
theorem resetValuesOfEveryRegister : Obligations.ResetValuesOfEveryRegister := by
  unfold Obligations.ResetValuesOfEveryRegister
  and_intros <;> intros <;> rfl

/-- Settles O8: reset builds its state anew, from the parameters and the environment's side alone. -/
theorem hardwareResetFromAnyState : Obligations.HardwareResetFromAnyState := by
  intro s rest hin
  refine ⟨_, step_reset hin, ?_⟩
  and_intros <;> intros <;> rfl

/-- Settles O13: the layouts of the registers, a write of `d` then a read, are masks of `d`. -/
theorem writeThenReadKeepsNamedBits : Obligations.WriteThenReadKeepsNamedBits := by
  intro s s1 s2 d
  refine ⟨?_, ?_, ?_, ?_, ?_⟩ <;> rintro ⟨⟩ ⟨⟩
  · exact congrArg (s.reads ++ [⟨0x004, ·⟩]) (CfgReg.toWord_ofWord d)
  · exact congrArg (s.reads ++ [⟨0x008, ·⟩]) (DimReg.toWord_ofWord d)
  · exact congrArg (s.reads ++ [⟨0x00C, ·⟩]) (kfiToWord_kfiOfWord d)
  · exact congrArg (s.reads ++ [⟨0x018, ·⟩]) (IrqEnReg.toWord_ofWord d)
  · rfl

/-- Settles O14, bit by bit of the `STATUS` word. -/
theorem statusReadGivesEachFlagInItsBit : Obligations.StatusReadGivesEachFlagInItsBit := by
  intro s
  obtain ⟨prevValid, lastKey, hread, hidle, hbusy⟩ := execRdStatus_answer s
  have hbit := s.getLsbD_statusWord prevValid lastKey
  refine ⟨s.statusWord prevValid lastKey, hread, (hbit 0).trans s.busy_eq_decide, hbit 1, hbit 2, hbit 3, hbit 6,
    hbit 7, s.statusWord_errCode .., s.statusWord_reserved .., fun hp => ?_, fun hp => ?_,
    rfl, rfl, rfl, rfl, rfl, rfl, rfl, rfl, rfl, rfl, rfl⟩
  · obtain ⟨hkey, hprev⟩ := hidle hp
    exact ⟨(hbit 4).trans hkey, (hbit 5).trans hprev⟩
  · obtain ⟨hkey, hprev⟩ := hbusy hp
    exact ⟨(hbit 4).trans hkey, (hbit 5).trans hprev⟩

/-- Settles O16, with the registers' words as numbers. -/
theorem activeConfigurationAndGeometryReads : Obligations.ActiveConfigurationAndGeometryReads := fun s =>
  ⟨next_respond_eq s 0x038 s.actCfg.toWord_eq, next_respond_eq s 0x03C s.actDim.toWord_eq,
    next_respond_eq s 0x040 (kfiToWord_eq s.actKfi), next_respond_eq s 0x044 s.actDim.tilesWord_eq,
    next_respond_eq s 0x048 s.ofNat_tileBytes, s.actCfg.tileBytes_eq, rfl, rfl, rfl, s.actDim.tileCount_lt,
    rfl, rfl, rfl, rfl, rfl, rfl⟩

/-- Settles O31: a pixel's tile and number are read back from its index. -/
theorem tilePixelsAreTheCanvas : Obligations.TilePixelsAreTheCanvas := fun _ hwidth =>
  ⟨fun _ y => DimReg.tilePixel_of_coordinates hwidth y, fun _ _ ht hp => DimReg.tilePixel_lt hwidth ht hp,
    fun _ _ _ _ => DimReg.tilePixel_inj hwidth⟩

/-- Settles O32, mode by mode (`Mode.length_pack`). -/
theorem tileBufferLength : Obligations.TileBufferLength := State.length_packTile

/-- Settles O48: the session reset, then the staged configuration in force. -/
theorem initStartsASession : Obligations.InitStartsASession := by
  intro s hpending hcheck
  exact ⟨_, congrArg Host.Outcome.next (State.cmdInit_pass (State.busy_eq_false.mpr hpending) hcheck), rfl⟩

/-- Settles O49: refused while busy; else the session reset, and the check's error raised. -/
theorem initFailures : Obligations.InitFailures := by
  intro s
  refine ⟨fun hpending => ?_, fun hpending hcheck => ?_⟩
  · exact congrArg Host.Outcome.next (State.cmdInit_busy (State.busy_eq_true.mpr hpending))
  · refine ⟨_, congrArg Host.Outcome.next (State.cmdInit_fail (State.busy_eq_false.mpr hpending) hcheck), ?_⟩
    rw [State.raiseError_prev, State.raiseError_prevEpoch, State.raiseError_eq]
    rfl

end

/-! # Transactions, reads, frames and the output stream

Settled here: the statements on decoding and on the step (`TransactionDecodingIsTotalAndUnambiguous`,
`StepRunsTheDecodedInstruction`, `EveryStepHasANextState`), on reads without side effect, on an accepted ENCODE, and on
the output: what becomes of `State.stream` in one step (`State.stream_after`) gives the statement on every run, and one
pop with one turn of the engine (`Inv.pop_then_turn`) the statement on the host that keeps popping. -/

namespace Sys2Proof.Laws

/-! ### The register map -/

/-- The map's offsets are the aligned ones from 0x000 on, in order (R82). -/
theorem map_offset_all : Reg.all.map Reg.offset = (List.range 23).map fun i => BitVec.ofNat 12 (4 * i) := by decide

theorem Reg.offset_inj {r r' : Reg} (h : r.offset = r'.offset) : r = r' :=
  List.inj_on_of_nodup_map (show (Reg.all.map Reg.offset).Nodup by decide) (Reg.mem_all r) (Reg.mem_all r') h

theorem exists_offset_eq_iff (off : Offset) :
    (∃ r : Reg, off = r.offset) ↔ off.toNat % 4 = 0 ∧ off.toNat ≤ 0x058 := by
  constructor
  · rintro ⟨r, rfl⟩
    cases r <;> decide
  · rintro ⟨haligned, hle⟩
    have hquarter : BitVec.ofNat 12 (4 * (off.toNat / 4)) = off := by
      rw [Nat.mul_div_cancel' (Nat.dvd_of_mod_eq_zero haligned), BitVec.ofNat_toNat, BitVec.setWidth_eq]
    have hmem : off ∈ Reg.all.map Reg.offset := by
      rw [map_offset_all]
      exact List.mem_map.mpr ⟨off.toNat / 4, List.mem_range.mpr (by omega), hquarter⟩
    obtain ⟨r, -, hr⟩ := List.mem_map.mp hmem
    exact ⟨r, hr.symm⟩

/-! ### The rows of the table -/

/-- The row of the read (`w = 0`) or the write (`w = 1`) of a register. -/
def busRowOf (w : BitVec 1) (r : Reg) : BusRow := ⟨txnCode w r.offset, 0x1FFF, if w = 0#1 then .rd r else .wr r⟩

theorem exists_busRowOf_of_mem {row : BusRow} (h : row ∈ busRows) : ∃ w r, row = busRowOf w r := by
  obtain ⟨r, -, hr⟩ := List.mem_flatMap.mp h
  obtain rfl | rfl : row = busRowOf 0#1 r ∨ row = busRowOf 1#1 r := by simpa [busRowsOf, busRowOf] using hr
  · exact ⟨_, _, rfl⟩
  · exact ⟨_, _, rfl⟩

/-- The mask drops no bit of the code (R81). -/
theorem busRowOf_matchesCode {w : BitVec 1} {r : Reg} {tc : TxnCode} :
    (busRowOf w r).matchesCode tc = true ↔ tc = txnCode w r.offset := by
  have hmask : tc &&& 0x1FFF = tc := BitVec.and_allOnes (x := tc)
  simp only [BusRow.matchesCode, busRowOf, hmask, beq_iff_eq]

theorem busRow_unique {row row' : BusRow} {tc : TxnCode} (hrow : row ∈ busRows) (hrow' : row' ∈ busRows)
    (hmatch : row.matchesCode tc = true) (hmatch' : row'.matchesCode tc = true) : row = row' := by
  obtain ⟨w, r, rfl⟩ := exists_busRowOf_of_mem hrow
  obtain ⟨w', r', rfl⟩ := exists_busRowOf_of_mem hrow'
  obtain ⟨rfl, hoff⟩ := txnCode_inj ((busRowOf_matchesCode.mp hmatch).symm.trans (busRowOf_matchesCode.mp hmatch'))
  rw [Reg.offset_inj hoff]

/-! ### What decodes, and what is rejected -/

/-- Bits [1:0] of an offset tell a misaligned one (R65). -/
theorem extractLsb'_eq_zero_iff (off : Offset) : off.extractLsb' 0 2 = 0#2 ↔ off.toNat % 4 = 0 := by
  rw [← BitVec.toNat_inj, BitVec.extractLsb'_toNat, Nat.shiftRight_zero]
  rfl

theorem decodeTxn_unmapped {t : Txn} (h : ¬ ∃ r : Reg, t.off = r.offset) :
    decodeTxn t = .reject (if t.off.toNat % 4 = 0 then .unmappedOffset else .misalignedOffset) := by
  have hnone : busRow t.code = none := by
    cases t <;> exact busRow_none fun r hr => h ⟨r, hr⟩
  simp [decodeTxn, hnone, extractLsb'_eq_zero_iff]

theorem decodeTxn_instr_iff (t : Txn) : (∃ i, decodeTxn t = .instr i) ↔ ∃ r : Reg, t.off = r.offset := by
  obtain ⟨r, rfl⟩ | ⟨r, d, rfl⟩ | hoff := Machine.Txn.cases t
  · exact iff_of_true ⟨_, decodeTxn_read r⟩ ⟨r, rfl⟩
  · exact iff_of_true ⟨_, decodeTxn_write r d⟩ ⟨r, rfl⟩
  · exact iff_of_false (fun ⟨i, hi⟩ => by simp [decodeTxn_unmapped (not_exists.mpr hoff)] at hi) (not_exists.mpr hoff)

end Sys2Proof.Laws

namespace Sys2Proof.Machine

/-! ### Every step has a next state -/

theorem hostTransaction_instr {t : Txn} {i : Instr} (h : decodeTxn t = .instr i) (s : State) :
    hostTransaction t s = exec i s := by
  simp [hostTransaction, h]

/-- R270: no meaning faults or refuses. Only those of the pixel port branch before they give the next state. -/
theorem exec_next (i : Instr) (s : State) : ∃ t, exec i s = .next t := by
  cases i with
  | rdPixData =>
    obtain ⟨t, ht, -⟩ := execRdPixData_effect s
    exact ⟨t, ht⟩
  | wrPixData d =>
    obtain ⟨t, ht, -⟩ := execWrPixData_effect d s
    exact ⟨t, ht⟩
  | _ => exact ⟨_, rfl⟩

theorem step_next (s : State) : ∃ t, step s = .next t := by
  rcases hin : s.inputs with - | ⟨tx | - | -, rest⟩
  · exact ⟨_, step_idle hin⟩
  · obtain ⟨t, ht, -⟩ := hostTransaction_effect tx { s with inputs := rest }
    exact ⟨t, (step_host hin).trans ht⟩
  · exact ⟨_, step_engine hin⟩
  · exact ⟨_, step_reset hin⟩

theorem State.after_eq {s t : State} (h : step s = .next t) : s.after = t := by
  simp [State.after, h]

theorem State.step_eq_after (s : State) : step s = .next s.after := by
  obtain ⟨t, ht⟩ := step_next s
  rw [State.after_eq ht, ht]

/-! ### Reads that are repeated -/

theorem State.respondUnlessBusy_sameBlock (s : State) (off : Offset) (v : Word) (drawn : Nat → Word) :
    s.sameBlock (s.respondUnlessBusy off v drawn) := by
  cases hb : s.busy with
  | false => rw [State.respondUnlessBusy_idle hb]; rfl
  | true => rw [State.respondUnlessBusy_busy hb]; rfl

/-- What a register that R217 leaves unspecified while busy answers: its value while idle. -/
theorem State.respondUnlessBusy_reads (s : State) (off : Offset) (v : Word) (drawn : Nat → Word) :
    ∃ w, (s.respondUnlessBusy off v drawn).reads = s.reads ++ [⟨off, w⟩] ∧ (s.pending = [] → w = v) := by
  by_cases hp : s.pending = []
  · exact ⟨v, by rw [State.respondUnlessBusy_idle (State.busy_eq_false.mpr hp)]; rfl, fun _ => rfl⟩
  · exact ⟨drawn s.readDraws, by rw [State.respondUnlessBusy_busy (State.busy_eq_true.mpr hp)]; rfl,
      fun h => absurd h hp⟩

/-- What two reads of `r` answer that lead from `s` to `t` and from `t` to `u` (R67, R217): equal values, but for what
is a draw while the block is busy. -/
def RepeatsAnswer (r : Reg) (s t u : State) : Prop :=
  ∃ v v', t.reads = s.reads ++ [⟨r.offset, v⟩] ∧ u.reads = t.reads ++ [⟨r.offset, v'⟩] ∧
    (s.pending = [] ∨ r ∉ [Reg.status, Reg.frameIdx, Reg.updCount, Reg.recLen] → v = v') ∧
    (r = .status → v &&& 0xFFFFFFCF = v' &&& 0xFFFFFFCF)

/-- A register whose value is a draw while busy, and else a function `value` of the block's own state. -/
theorem repeatsAnswer_of_respondUnlessBusy {r : Reg} {s t u : State} {value : State → Word} {drawn : Nat → Word}
    (hr : r ∈ [Reg.frameIdx, .updCount, .recLen])
    (hread : ∀ s, exec r.readInstr s = .next (s.respondUnlessBusy r.offset (value s) drawn))
    (hvalue : ∀ {s t : State}, s.sameBlock t → value s = value t)
    (ht : exec r.readInstr s = .next t) (hu : exec r.readInstr t = .next u) :
    s.sameBlock t ∧ RepeatsAnswer r s t u := by
  obtain rfl := Host.Outcome.next.inj ((hread s).symm.trans ht)
  obtain rfl := Host.Outcome.next.inj ((hread _).symm.trans hu)
  have hsame := s.respondUnlessBusy_sameBlock r.offset (value s) drawn
  obtain ⟨v, hv, hidle⟩ := s.respondUnlessBusy_reads r.offset (value s) drawn
  obtain ⟨v', hv', hidle'⟩ := State.respondUnlessBusy_reads _ r.offset (value _) drawn
  refine ⟨hsame, v, v', hv, hv', fun hcase => ?_, ?_⟩
  · have hp : s.pending = [] := hcase.resolve_right (not_not_intro (List.mem_cons_of_mem _ hr))
    have hp' := (congrArg State.pending hsame).symm.trans hp
    exact ((hidle hp).trans (hvalue hsame)).trans (hidle' hp').symm
  · rintro rfl
    simp at hr

/-- Bits 5 and 4 of the `STATUS` word are `PREV_VALID` and `LAST_KEY`; the mask leaves the others. -/
theorem State.statusWord_and_mask (s : State) (prevValid lastKey prevValid' lastKey' : Bool) :
    s.statusWord prevValid lastKey &&& 0xFFFFFFCF = s.statusWord prevValid' lastKey' &&& 0xFFFFFFCF := by
  refine BitVec.eq_of_getLsbD_eq fun i _ => ?_
  rw [BitVec.getLsbD_and, BitVec.getLsbD_and, State.getLsbD_statusWord, State.getLsbD_statusWord]
  rcases i with _ | _ | _ | _ | _ | _ | _ | _ | i <;> simp

theorem execRdPixData_ok {s : State} (hok : s.cfgValid = true ∧ s.pixAddr.toNat < s.npix) :
    execRdPixData s = .next (s.respond Reg.pixData.offset ((s.canvasAt s.pixAddr.toNat).setWidth 32)) := by
  obtain ⟨hvalid, hrange⟩ := hok
  simp [execRdPixData, hvalid, hrange]

theorem execRdPixData_fail {s : State} (hfail : ¬ (s.cfgValid = true ∧ s.pixAddr.toNat < s.npix)) :
    ∃ code, execRdPixData s = .next ((s.raiseError code).respond Reg.pixData.offset 0) := by
  unfold execRdPixData
  split_ifs with hvalid hrange
  · exact ⟨_, rfl⟩
  · exact ⟨_, rfl⟩
  · exact absurd ⟨by simpa using hvalid, by omega⟩ hfail

/-- R125: a read of `PIX_DATA` without error changes nothing, and one with an error answers 0 again. -/
theorem execRdPixData_twice {s t u : State} (ht : execRdPixData s = .next t) (hu : execRdPixData t = .next u) :
    (s.cfgValid = true ∧ s.pixAddr.toNat < s.npix → s.sameBlock t) ∧
      ∃ v, t.reads = s.reads ++ [⟨Reg.pixData.offset, v⟩] ∧ u.reads = t.reads ++ [⟨Reg.pixData.offset, v⟩] := by
  by_cases hok : s.cfgValid = true ∧ s.pixAddr.toNat < s.npix
  · obtain rfl := Host.Outcome.next.inj ((execRdPixData_ok hok).symm.trans ht)
    obtain rfl := Host.Outcome.next.inj ((execRdPixData_ok (s := s.respond _ _) hok).symm.trans hu)
    exact ⟨fun _ => rfl, _, rfl, rfl⟩
  · obtain ⟨code, hs⟩ := execRdPixData_fail hok
    obtain rfl := Host.Outcome.next.inj (hs.symm.trans ht)
    obtain ⟨code', hs'⟩ :=
      execRdPixData_fail (s := (s.raiseError code).respond Reg.pixData.offset 0) (by simpa using hok)
    obtain rfl := Host.Outcome.next.inj (hs'.symm.trans hu)
    exact ⟨fun h => absurd h hok, 0, by simp, by simp⟩

/-! ### An accepted ENCODE -/

theorem State.cmdEncode_accept {s : State} (hb : s.busy = false) (hvalid : s.cfgValid = true) :
    s.cmdEncode = s.acceptFrame := by
  simp [State.cmdEncode, hb, hvalid]

/-- A frame is a keyframe without a valid `Prev`, and at the interval of `ACT_KFI` (R160). -/
theorem State.isKey_iff (s : State) :
    s.isKey = true ↔ s.prevValid = false ∨ (s.actKfi.toNat ≠ 0 ∧ s.frameIdx.toNat % s.actKfi.toNat = 0) := by
  simp [State.isKey]

/-- Every record begins with its header. -/
theorem State.record_ne_nil (s : State) : s.record ≠ [] := by
  unfold State.record
  split_ifs <;> simp [recordFlat, recordSkip, le16]

/-- Byte `j` of block `k` lies within `m` blocks of `n` bytes. -/
theorem blockByte_lt {k m j n : Nat} (hk : k < m) (hj : j < n) : k * n + j < m * n :=
  Nat.mul_comm n k ▸ Nat.mul_add_lt_mul_of_lt_of_lt hk hj

/-- Byte `j` of block `k` in a concatenation of blocks of `n` bytes. -/
theorem getElem?_flatMap_range {f : Nat → List Byte} {n m k j : Nat} (hlen : ∀ t, (f t).length = n) (hk : k < m)
    (hj : j < n) : ((List.range m).flatMap f)[k * n + j]? = (f k)[j]? := by
  have hblocks (m : Nat) : ((List.range m).flatMap f).length = m * n := by simp [List.length_flatMap, hlen]
  induction m with
  | zero => omega
  | succ m ih =>
    rw [List.range_succ, List.flatMap_append, List.flatMap_singleton]
    obtain rfl | hlt := Nat.eq_or_lt_of_le (Nat.le_of_lt_succ hk)
    · rw [List.getElem?_append_right (by rw [hblocks]; omega), hblocks, Nat.add_sub_cancel_left]
    · rw [List.getElem?_append_left (by rw [hblocks]; exact blockByte_lt hlt hj), ih hlt]

/-- R164: `Prev` holds the current tiles. -/
theorem State.prevByte_acceptFrame_tile (s : State) {k j : Nat} (hk : k < s.tileCount) (hj : j < s.tileBytes) :
    s.acceptFrame.prevByte (k * s.tileBytes + j) = (s.packTile k).getD j 0 := by
  rw [State.prevByte_acceptFrame (blockByte_lt hk hj), List.getD_eq_getElem?_getD, List.getD_eq_getElem?_getD,
    State.currentTiles, getElem?_flatMap_range s.length_packTile hk hj]

theorem State.prevByte_acceptFrame_beyond (s : State) {a : Nat} (ha : s.prevExtent ≤ a) :
    s.acceptFrame.prevByte a = s.prevByte a := by
  have hread : s.acceptFrame.prev.read a = s.prev.read a := by
    rw [State.acceptFrame_prev, Memory.read_writePrefix, if_neg (by rw [s.length_currentTiles]; omega)]
  rw [State.prevByte, hread]
  rfl

/-! ### The output stream: what the operations leave of it -/

theorem poppedByte_of_ne {off : Offset} (h : off ≠ Reg.outData.offset) (v : Word) : poppedByte ⟨off, v⟩ = none := by
  simp [poppedByte, h]

/-- The byte of an `OUT_DATA` word with VALID set is read back from it (R219). -/
theorem poppedByte_outDataWord (b : Byte) : poppedByte ⟨Reg.outData.offset, outDataWord b⟩ = some b := by
  have hvalid : (outDataWord b).getLsbD 8 = true := by simp [outDataWord]
  have hbyte : (outDataWord b).extractLsb' 0 8 = b := by
    ext i hi
    have hlow : ∀ i < 8, (0x00000100 : Word).getLsbD i = false := by decide
    rw [BitVec.getElem_extractLsb', Nat.zero_add, outDataWord, BitVec.getLsbD_or, hlow i hi, BitVec.getLsbD_setWidth,
      BitVec.getLsbD_eq_getElem hi, decide_eq_true (by omega), Bool.false_or, Bool.true_and]
  simp [poppedByte, hvalid, hbyte]

/-- R307: an answer to a read that is none of `OUT_DATA` brings no byte of output. -/
theorem State.stream_respond (s : State) {off : Offset} (h : off ≠ Reg.outData.offset) (v : Word) :
    (s.respond off v).stream = s.stream := by
  simp [State.stream, State.popped, poppedByte_of_ne h]

@[simp] theorem State.stream_raiseError (s : State) (code : ErrCode) : (s.raiseError code).stream = s.stream := by
  simp [State.stream, State.popped]

/-- R219: a pop takes the byte from the FIFO to the host; an empty FIFO gives none. -/
@[simp] theorem State.stream_popOutput (s : State) : s.popOutput.stream = s.stream := by
  obtain ⟨hfifo, heq⟩ | ⟨b, rest, hfifo, heq⟩ := s.popOutput_cases <;> rw [heq]
  · have hnone : poppedByte ⟨Reg.outData.offset, 0#32⟩ = none := by decide
    simp [State.stream, State.popped, hnone]
  · simp [State.stream, State.popped, poppedByte_outDataWord, hfifo]

/-- R218: the engine takes the byte from `PENDING` to the FIFO. -/
@[simp] theorem State.stream_engineTurn (s : State) : s.engineTurn.stream = s.stream := by
  obtain ⟨-, heq⟩ | ⟨b, rest, hpending, -, heq⟩ := s.engineTurn_cases <;> rw [heq]
  simp [State.stream, State.popped, hpending]

/-- A transaction that is neither a pop nor a command leaves the stream. -/
theorem TxnEffect.stream {s t : State} {tx : Txn} (he : TxnEffect s tx t) (hpop : tx ≠ .read Reg.outData.offset)
    (hcmd : ∀ d, tx ≠ .write Reg.cmd.offset d) : t.stream = s.stream := by
  cases he with
  | answer r v => exact s.stream_respond (fun h => hpop (congrArg _ h)) v
  | draw r v => exact State.stream_respond _ (fun h => hpop (congrArg _ h)) v
  | refuseRead code => rw [State.stream_respond _ (by decide), State.stream_raiseError]
  | pop => exact absurd rfl hpop
  | issue d => exact absurd rfl (hcmd d)
  | refusePixel d code => exact s.stream_raiseError code
  | unmapped _ hoff =>
    cases tx with
    | read off => exact (State.stream_respond _ (hoff .outData) 0).trans (s.stream_raiseError .eBadAddr)
    | write off d => exact s.stream_raiseError .eBadAddr
  | _ => rfl

/-! ### The output stream: commands -/

/-- R216: the record of an accepted frame goes to the end of the stream. -/
theorem State.stream_acceptFrame {s : State} (hidle : s.busy = false) :
    s.acceptFrame.stream = s.stream ++ s.record := by
  simp [State.stream, State.popped, State.busy_eq_false.mp hidle]

theorem State.stream_cmdEncode (s : State) :
    s.cmdEncode.stream = s.stream ++ if s.busy = false ∧ s.cfgValid = true then s.record else [] := by
  obtain ⟨hbusy, heq⟩ | ⟨hidle, hvalid, heq⟩ | ⟨hidle, hvalid, heq⟩ := s.cmdEncode_cases <;> rw [heq]
  · simp [hbusy]
  · simp [hvalid]
  · simp [hidle, hvalid, State.stream_acceptFrame]

/-- A command that is no ENCODE, and no INIT carried out, leaves the stream. -/
theorem CommandEffect.stream {s t : State} {d : Word} (he : CommandEffect s d t) (hencode : d ≠ 2)
    (hinit : ¬ (d = 1 ∧ s.busy = false)) : t.stream = s.stream := by
  cases he with
  | nop => rfl
  | refuse d code => exact s.stream_raiseError code
  | startSession hidle | failSession hidle => exact absurd ⟨rfl, hidle⟩ hinit
  | acceptFrame => exact absurd rfl hencode

theorem State.stream_issueCommand {s : State} {d : Word} (hinit : ¬ (d = 1 ∧ s.busy = false)) :
    (s.issueCommand d).stream =
      s.stream ++ if d = 2 ∧ s.busy = false ∧ s.cfgValid = true then s.record else [] := by
  by_cases hencode : d = 2
  · subst hencode
    have hissue : s.issueCommand 2 = s.cmdEncode := by rw [State.issueCommand, Laws.decodeCommand_encode]
    rw [hissue, State.stream_cmdEncode]
    simp only [true_and]
  · rw [if_neg fun h => hencode h.1, List.append_nil]
    exact (s.issueCommand_effect d).stream hencode hinit

/-! ### The output stream: the step -/

/-- The record that a transaction of the host puts on its way, if it is an ENCODE that is accepted. -/
def State.recordOf (s : State) (tx : Txn) : List Byte :=
  if tx = .write Reg.cmd.offset 2 ∧ s.busy = false ∧ s.cfgValid = true then s.record else []

theorem State.emitted_host {s : State} {tx : Txn} {rest : List Event} (hin : s.inputs = .host tx :: rest) :
    s.emitted = { s with inputs := rest }.recordOf tx := by
  rw [State.emitted, hin]
  rfl

theorem hostTransaction_stream {s t : State} {tx : Txn} (hnext : hostTransaction tx s = .next t)
    (hinit : ¬ (tx = .write Reg.cmd.offset 1 ∧ s.busy = false)) : t.stream = s.stream ++ s.recordOf tx := by
  by_cases hcmd : ∃ d, tx = .write Reg.cmd.offset d
  · obtain ⟨d, rfl⟩ := hcmd
    obtain rfl := Host.Outcome.next.inj ((hostTransaction_write .cmd d s).symm.trans hnext)
    rw [State.stream_issueCommand (by simpa using hinit)]
    simp [State.recordOf]
  have hcmd : ∀ d, tx ≠ .write Reg.cmd.offset d := not_exists.mp hcmd
  rw [State.recordOf, if_neg fun h => hcmd 2 h.1, List.append_nil]
  by_cases hpop : tx = .read Reg.outData.offset
  · subst hpop
    obtain rfl := Host.Outcome.next.inj ((hostTransaction_read .outData s).symm.trans hnext)
    exact s.stream_popOutput
  · obtain ⟨t', hnext', heffect⟩ := hostTransaction_effect tx s
    obtain rfl := Host.Outcome.next.inj (hnext'.symm.trans hnext)
    exact heffect.stream hpop hcmd

/-- A step that discards no output keeps the stream, and adds the record of the ENCODE it accepts. -/
theorem State.stream_after {s : State} (hkeeps : ¬ s.discardsOutput) : s.after.stream = s.stream ++ s.emitted := by
  obtain ⟨hinit, hreset⟩ := not_or.mp hkeeps
  rcases hin : s.inputs with - | ⟨tx | - | -, rest⟩
  · rw [State.after_eq (step_idle hin), State.stream_engineTurn, State.emitted, hin, List.append_nil]
  · rw [State.emitted_host hin]
    have hnext := (step_host hin).symm.trans s.step_eq_after
    exact hostTransaction_stream (s := { s with inputs := rest }) hnext fun ⟨htx, hidle⟩ =>
      hinit ⟨⟨rest, htx ▸ hin⟩, hidle⟩
  · rw [State.after_eq (step_engine hin), State.stream_engineTurn, State.emitted, hin, List.append_nil]
    rfl
  · exact absurd ⟨rest, hin⟩ hreset

theorem State.stream_afterSteps {s : State} {k : Nat} (hkeeps : ∀ j < k, ¬ (State.afterSteps j s).discardsOutput) :
    (State.afterSteps k s).stream = s.stream ++ State.emittedIn k s := by
  induction k generalizing s with
  | zero => exact (List.append_nil _).symm
  | succ k ih =>
    have hfirst : s.after.stream = s.stream ++ s.emitted := State.stream_after (hkeeps 0 k.succ_pos)
    calc (State.afterSteps k s.after).stream
      _ = s.after.stream ++ State.emittedIn k s.after := ih fun j hj => hkeeps (j + 1) (Nat.succ_lt_succ hj)
      _ = s.stream ++ s.emitted ++ State.emittedIn k s.after := by rw [hfirst]
      _ = s.stream ++ State.emittedIn (k + 1) s := List.append_assoc _ _ _

/-! ### A host that keeps popping -/

@[simp] theorem State.popOutput_pending (s : State) : s.popOutput.pending = s.pending := by
  obtain ⟨-, heq⟩ | ⟨b, rest, -, heq⟩ := s.popOutput_cases <;> rw [heq] <;> rfl

@[simp] theorem State.popOutput_inputs (s : State) : s.popOutput.inputs = s.inputs := by
  obtain ⟨-, heq⟩ | ⟨b, rest, -, heq⟩ := s.popOutput_cases <;> rw [heq] <;> rfl

/-- After a pop the FIFO has room: it has lost a byte, or it is empty and holds at least one (R5). -/
theorem Inv.popOutput_room {s : State} (h : Inv s) : s.popOutput.ofifo.length < s.popOutput.fifoDepth.toNat := by
  obtain ⟨hfifo, heq⟩ | ⟨b, rest, hfifo, heq⟩ := s.popOutput_cases <;> rw [heq]
  · have hdepth := h.params
    simp only [parametersWf, Bool.and_eq_true, decide_eq_true_eq] at hdepth
    rw [State.respond_ofifo, State.respond_fifoDepth, hfifo]
    exact hdepth.2
  · simpa [hfifo] using h.fifoBound

theorem State.after_pop {s : State} {rest : List Event} (hin : s.inputs = .host (.read Reg.outData.offset) :: rest) :
    s.after = { s with inputs := rest }.popOutput :=
  State.after_eq ((step_host hin).trans (hostTransaction_read .outData _))

/-- A pop and a turn of the engine push one byte, and `DONE` is set with the last one. -/
theorem Inv.pop_then_turn {s : State} (h : Inv s) {b : Byte} {bytes : List Byte} {more : List Event}
    (hpending : s.pending = b :: bytes) (hin : s.inputs = .host (.read Reg.outData.offset) :: .engine :: more) :
    Inv s.after.after ∧ s.after.after.pending = bytes ∧ s.after.after.inputs = more ∧
      (bytes = [] → s.after.after.done = true) := by
  have hpop := State.after_pop hin
  have hinv : Inv s.after := h.step s.step_eq_after
  have hroom : s.after.ofifo.length < s.after.fifoDepth.toNat := hpop ▸ h.update.popOutput_room
  have hpending : s.after.pending = b :: bytes := by rw [hpop, State.popOutput_pending, hpending]
  have hin : s.after.inputs = .engine :: more := by rw [hpop, State.popOutput_inputs]
  have hturn := State.after_eq (step_engine hin)
  rw [State.engineTurn_push (s := { s.after with inputs := more }) hpending hroom] at hturn
  refine ⟨hinv.step s.after.step_eq_after, ?_, ?_, ?_⟩ <;> rw [hturn]
  intro hlast
  simp [hlast]

/-- Every record in progress is completed so, byte by byte. -/
theorem Inv.afterSteps_popping {s : State} (h : Inv s) {b : Byte} {bytes : List Byte} {rest : List Event}
    (hpending : s.pending = b :: bytes)
    (hin : s.inputs =
      (List.replicate (b :: bytes).length [Event.host (.read Reg.outData.offset), Event.engine]).flatten ++ rest) :
    (State.afterSteps (2 * (b :: bytes).length) s).pending = [] ∧
      (State.afterSteps (2 * (b :: bytes).length) s).done = true ∧
      (State.afterSteps (2 * (b :: bytes).length) s).inputs = rest := by
  induction bytes generalizing s b with
  | nil =>
    obtain ⟨-, hpending', hinputs, hdone⟩ := h.pop_then_turn hpending hin
    exact ⟨hpending', hdone rfl, hinputs⟩
  | cons c bytes ih =>
    obtain ⟨hinv, hpending', hinputs, -⟩ := h.pop_then_turn hpending hin
    exact ih hinv hpending' hinputs

end Sys2Proof.Machine

section

open Sys2Proof Sys2Proof.Machine

/-- Settles O55, by induction on the number of steps: each keeps the stream and adds the record it accepts. -/
theorem outputIsTheRecordsInOrder : Obligations.OutputIsTheRecordsInOrder :=
  fun _ _ => State.stream_afterSteps

/-- Settles O2: the rows' codes are the registers' offsets with the `W` bit, and these are distinct. -/
theorem transactionDecodingIsTotalAndUnambiguous : Obligations.TransactionDecodingIsTotalAndUnambiguous := by
  refine ⟨fun _ _ hrow _ hrow' => Laws.busRow_unique hrow hrow', fun t => ?_⟩
  have hmapped := Laws.exists_offset_eq_iff t.off
  refine ⟨(Laws.decodeTxn_instr_iff t).trans hmapped, fun hmisaligned => ?_, fun haligned hbeyond => ?_⟩
  · rw [Laws.decodeTxn_unmapped fun h => hmisaligned (hmapped.mp h).1, if_neg hmisaligned]
  · rw [Laws.decodeTxn_unmapped fun h => by have := (hmapped.mp h).2; omega, if_pos haligned]

/-- Settles O21: a read answers with the block's own value, but for a draw while busy, and of `PIX_DATA` with 0 when
it raises an error. -/
theorem readsWithoutSideEffect : Obligations.ReadsWithoutSideEffect := by
  intro r s t u hr ht hu
  cases r with
  | outData => exact absurd rfl hr
  | status =>
    obtain ⟨prevValid, lastKey, hs, hidle, -⟩ := execRdStatus_answer s
    obtain rfl := Host.Outcome.next.inj (hs.symm.trans ht)
    obtain ⟨prevValid', lastKey', hs', hidle', -⟩ := execRdStatus_answer _
    obtain rfl := Host.Outcome.next.inj (hs'.symm.trans hu)
    refine ⟨fun _ => rfl, _, _, rfl, rfl, fun hp => ?_, fun _ => s.statusWord_and_mask ..⟩
    have hp : s.pending = [] := by simpa using hp
    obtain ⟨rfl, rfl⟩ := hidle hp
    obtain ⟨rfl, rfl⟩ := hidle' hp
    rfl
  | frameIdx =>
    exact (repeatsAnswer_of_respondUnlessBusy (by decide) (fun _ => rfl) (congrArg State.frameIdx) ht hu).imp_left
      fun hsame _ => hsame
  | updCount =>
    exact (repeatsAnswer_of_respondUnlessBusy (by decide) (fun _ => rfl)
      (congrArg fun s : State => s.updCount.setWidth 32) ht hu).imp_left fun hsame _ => hsame
  | recLen =>
    exact (repeatsAnswer_of_respondUnlessBusy (by decide) (fun _ => rfl) (congrArg State.recLen) ht hu).imp_left
      fun hsame _ => hsame
  | pixData =>
    obtain ⟨hsame, v, hv, hv'⟩ := execRdPixData_twice ht hu
    exact ⟨fun hok => hsame (hok rfl), v, v, hv, hv', fun _ => rfl, nofun⟩
  | _ =>
    cases ht
    cases hu
    exact ⟨fun _ => rfl, _, _, rfl, rfl, fun _ => rfl, nofun⟩

/-- Settles O51: the accepted frame is `State.acceptFrame`, and `Prev` then holds the current tiles. -/
theorem encodeAcceptsAFrame : Obligations.EncodeAcceptsAFrame := by
  intro s hpending hvalid
  have haccept := State.cmdEncode_accept (State.busy_eq_false.mpr hpending) hvalid
  exact ⟨s.acceptFrame, s.isKey, congrArg Host.Outcome.next haccept, s.isKey_iff, rfl, s.record_ne_nil,
    fun _ hk _ hj => s.prevByte_acceptFrame_tile hk hj, fun _ => s.prevByte_acceptFrame_beyond⟩

/-- Settles O58, by induction on the bytes left: a pop makes room, and the turn after it pushes one of them. -/
theorem poppingHostCompletesTheRecord : Obligations.PoppingHostCompletesTheRecord := by
  intro s rest h hpending hin
  obtain ⟨b, bytes, hcons⟩ := List.exists_cons_of_ne_nil hpending
  rw [hcons] at hin ⊢
  exact h.afterSteps_popping hcons hin

/-- Settles O4: the step is `hostTransaction`, which runs what the code decodes to. -/
theorem stepRunsTheDecodedInstruction : Obligations.StepRunsTheDecodedInstruction :=
  fun _ _ _ _ hin hdecode _ => (step_host hin).trans (hostTransaction_instr hdecode _)

/-- Settles O6: each kind of input has its next state, and so has each instruction. -/
theorem everyStepHasANextState : Obligations.EveryStepHasANextState :=
  ⟨step_next, exec_next⟩

end

/-! # Encodings and records

Settled here: the statements on the encodings of instructions, host lines, pixel words and commands, and on the record
of an accepted frame. First stands that decoding is the inverse of encoding (`decode_encode`, `encode_of_decode`); then
the decoders of the two record forms read back what the encoders emit (`decodeSkipRecord_recordSkip`,
`decodeFlatRecord_recordFlat`), each by induction on the updates. -/

namespace Sys2Proof.Laws

/-! ### Decoding is the inverse of encoding -/

/-- The family `RoundTrip`, as one statement about every instruction. -/
theorem decode_encode (i : Instr) : decode (encode i) = .instr i :=
  open RoundTrip in
  i.casesOn rdId wrId rdCfg wrCfg rdDim wrDim rdKfi wrKfi rdCmd wrCmd rdStatus wrStatus rdIrqEn wrIrqEn rdFrameIdx
    wrFrameIdx rdUpdCount wrUpdCount rdRecLen wrRecLen rdOutData wrOutData rdOutLevel wrOutLevel rdPixAddr wrPixAddr
    rdPixData wrPixData rdActCfg wrActCfg rdActDim wrActDim rdActKfi wrActKfi rdTiles wrTiles rdTileBytes wrTileBytes
    rdTileCount wrTileCount rdCanvasCap wrCanvasCap rdPrevCap wrPrevCap rdFifoDepth wrFifoDepth
    RoundTrip.nop RoundTrip.init RoundTrip.encode

theorem encode_readInstr (r : Reg) : encode r.readInstr = .bus (.read r.offset) := by cases r <;> rfl

theorem encode_writeInstr (r : Reg) (d : Word) : encode (r.writeInstr d) = .bus (.write r.offset d) := by
  cases r <;> rfl

/-- A transaction that decodes is the encoding of what it decodes to: no bit of it is dropped. -/
theorem encode_of_decodeTxn {t : Txn} {i : Instr} (h : decodeTxn t = .instr i) : encode i = .bus t := by
  obtain ⟨r, rfl⟩ | ⟨r, d, rfl⟩ | hoff := Machine.Txn.cases t
  · obtain rfl := Decoded.instr.inj ((decodeTxn_read r).symm.trans h)
    exact encode_readInstr r
  · obtain rfl := Decoded.instr.inj ((decodeTxn_write r d).symm.trans h)
    exact encode_writeInstr r d
  · simp [decodeTxn_unmapped (not_exists.mpr hoff)] at h

/-- A word that names a command is that command's encoding: no bit of it is dropped. -/
theorem encode_of_decodeCommand {w : Word} {c : Command} (h : decodeCommand w = some c) : encode c.instr = .cmd w := by
  have hword : w = 0 ∨ w = 1 ∨ w = 2 := by
    by_contra hne
    obtain ⟨h0, h1, h2⟩ : w ≠ 0 ∧ w ≠ 1 ∧ w ≠ 2 := by simpa using hne
    simp [decodeCommand_reserved h0 h1 h2] at h
  obtain rfl | rfl | rfl := hword
  · cases decodeCommand_nop.symm.trans h
    rfl
  · cases decodeCommand_init.symm.trans h
    rfl
  · cases decodeCommand_encode.symm.trans h
    rfl

theorem encode_of_decode {e : Encoded} {i : Instr} (h : decode e = .instr i) : encode i = e := by
  cases e with
  | bus t => exact encode_of_decodeTxn h
  | cmd w =>
    cases hc : decodeCommand w with
    | none => simp [decode, hc] at h
    | some c =>
      obtain rfl : c.instr = i := by simpa [decode, hc] using h
      exact encode_of_decodeCommand hc

/-! ### Transaction codes and literals as numbers -/

theorem toNat_txnCode (w : BitVec 1) (off : Offset) : (txnCode w off).toNat = w.toNat * 0x1000 + off.toNat := by
  simp only [txnCode, BitVec.toNat_append]
  rw [← Nat.shiftLeft_add_eq_or_of_lt off.isLt, Nat.shiftLeft_eq]

theorem toNat_code_read (off : Offset) : (Txn.read off).code.toNat = off.toNat := by
  simp [Txn.code, toNat_txnCode]

theorem toNat_code_write (off : Offset) (d : Word) : (Txn.write off d).code.toNat = 0x1000 + off.toNat := by
  simp [Txn.code, toNat_txnCode]

theorem toNat_ofNat_of_lt {w n : Nat} (h : n < 2 ^ w) : (BitVec.ofNat w n).toNat = n := by
  rw [BitVec.toNat_ofNat, Nat.mod_eq_of_lt h]

theorem toNat_ofNat_of_immFits {imm : Nat} (h : immFits imm = true) : (BitVec.ofNat 32 imm).toNat = imm :=
  toNat_ofNat_of_lt (by simpa [immFits] using h)

theorem toNat_ofNat_of_offsetFits {off : Nat} (h : offsetFits off = true) : (BitVec.ofNat 12 off).toNat = off :=
  toNat_ofNat_of_lt (by simpa [offsetFits] using h)

end Sys2Proof.Laws

namespace Sys2Proof.Machine

/-! ### The pixel word and the quantizer -/

/-- The three channels, as digits of the word in base 256 (R92). -/
theorem toNat_channels (d : Word) :
    (pixR d).toNat = d.toNat / 65536 % 256 ∧ (pixG d).toNat = d.toNat / 256 % 256 ∧ (pixB d).toNat = d.toNat % 256 := by
  simp [pixR, pixG, pixB, BitVec.extractLsb'_toNat, Nat.shiftRight_eq_div_pow]

/-- The mode of every `(DIRECT, BPP)` pair (R85). -/
theorem CfgReg.mode_eq (c : CfgReg) :
    c.mode =
      if c.direct then
        if c.bpp.toNat = 8 then some .rgb332 else if c.bpp.toNat = 9 then some .rgb333 else none
      else if c.bpp.toNat = 1 then some .idx1 else if c.bpp.toNat = 2 then some .idx2
      else if c.bpp.toNat = 4 then some .idx4 else if c.bpp.toNat = 8 then some .idx8 else none := by
  have hall : ∀ (bpp : BitVec 4) (direct recfmt : Bool), CfgReg.mode ⟨bpp, direct, recfmt⟩ =
      if direct then
        if bpp.toNat = 8 then some .rgb332 else if bpp.toNat = 9 then some .rgb333 else none
      else if bpp.toNat = 1 then some .idx1 else if bpp.toNat = 2 then some .idx2
      else if bpp.toNat = 4 then some .idx4 else if bpp.toNat = 8 then some .idx8 else none := by decide
  exact hall c.bpp c.direct c.recfmt

theorem CfgReg.quantize_of_mode {c : CfgReg} {m : Mode} (h : c.mode = some m) (d : Word) :
    c.quantize d = m.quantize d := by
  simp [CfgReg.quantize, h]

/-- The four indexed modes store the index (R121). -/
theorem CfgReg.quantize_indexed {c : CfgReg} (hdirect : c.direct = false) (hbpp : c.bpp.toNat ∈ [1, 2, 4, 8])
    (d : Word) : c.quantize d = quantizeIndexed d := by
  obtain h | h | h | h : c.bpp.toNat = 1 ∨ c.bpp.toNat = 2 ∨ c.bpp.toNat = 4 ∨ c.bpp.toNat = 8 := by simpa using hbpp
  all_goals simp [CfgReg.quantize, CfgReg.mode_eq, hdirect, h, Mode.quantize]

theorem quantizeIndexed_bits (d : Word) :
    (quantizeIndexed d).extractLsb' 0 8 = d.extractLsb' 0 8 ∧ (quantizeIndexed d).getLsbD 8 = false := by
  constructor
  · ext i hi
    have hi9 : i < 9 := by omega
    simp [quantizeIndexed, pixIndex, hi, hi9]
  · simp [quantizeIndexed]

/-- R122, bit by bit: bits [7:5] of the red and the green channel, and bits [7:6] of the blue one. -/
theorem getLsbD_quantizeRgb332 (d : Word) (i : Nat) :
    (quantizeRgb332 d).getLsbD i =
      match i with
      | 0 | 1 | 2 => d.getLsbD (21 + i)
      | 3 | 4 | 5 => d.getLsbD (10 + i)
      | 6 | 7 => d.getLsbD i
      | _ => false := by
  rcases i with _ | _ | _ | _ | _ | _ | _ | _ | _ | i
  case succ => exact BitVec.getLsbD_of_ge _ _ (by omega)
  all_goals simp [quantizeRgb332, pixR, pixG, pixB]

/-- R123, bit by bit: bits [7:5] of each channel. -/
theorem getLsbD_quantizeRgb333 (d : Word) (i : Nat) :
    (quantizeRgb333 d).getLsbD i =
      match i with
      | 0 | 1 | 2 => d.getLsbD (21 + i)
      | 3 | 4 | 5 => d.getLsbD (10 + i)
      | 6 | 7 | 8 => d.getLsbD (i - 1)
      | _ => false := by
  rcases i with _ | _ | _ | _ | _ | _ | _ | _ | _ | i
  case succ => exact BitVec.getLsbD_of_ge _ _ (by omega)
  all_goals simp [quantizeRgb333, pixR, pixG, pixB]

/-- Two fields are equal if their bits are. -/
theorem extractLsb'_eq_of_getLsbD_eq {v w : Nat} {x : BitVec v} {y : BitVec w} {i j n : Nat}
    (h : ∀ k < n, x.getLsbD (i + k) = y.getLsbD (j + k)) : x.extractLsb' i n = y.extractLsb' j n := by
  ext k hk
  rw [BitVec.getElem_extractLsb', BitVec.getElem_extractLsb', h k hk]

theorem quantizeRgb332_bits (d : Word) :
    (quantizeRgb332 d).extractLsb' 0 3 = d.extractLsb' 21 3 ∧ (quantizeRgb332 d).extractLsb' 3 3 = d.extractLsb' 13 3 ∧
      (quantizeRgb332 d).extractLsb' 6 2 = d.extractLsb' 6 2 ∧ (quantizeRgb332 d).getLsbD 8 = false := by
  refine ⟨extractLsb'_eq_of_getLsbD_eq ?_, extractLsb'_eq_of_getLsbD_eq ?_, extractLsb'_eq_of_getLsbD_eq ?_,
    getLsbD_quantizeRgb332 d 8⟩
  all_goals
    intro k hk
    rw [getLsbD_quantizeRgb332]
    interval_cases k <;> rfl

theorem quantizeRgb333_bits (d : Word) :
    (quantizeRgb333 d).extractLsb' 0 3 = d.extractLsb' 21 3 ∧ (quantizeRgb333 d).extractLsb' 3 3 = d.extractLsb' 13 3 ∧
      (quantizeRgb333 d).extractLsb' 6 3 = d.extractLsb' 5 3 := by
  refine ⟨extractLsb'_eq_of_getLsbD_eq ?_, extractLsb'_eq_of_getLsbD_eq ?_, extractLsb'_eq_of_getLsbD_eq ?_⟩
  all_goals
    intro k hk
    rw [getLsbD_quantizeRgb333]
    interval_cases k <;> rfl

/-! ### Decoding a record: its parts -/

/-- A byte below 255 ends a gap (R188). -/
theorem readGap_cons_of_lt {gap : Nat} (h : gap < 255) (more : List Byte) :
    readGap (BitVec.ofNat 8 gap :: more) = some (gap, more) := by
  have htoNat : (BitVec.ofNat 8 gap).toNat = gap := Laws.toNat_ofNat_of_lt (by omega)
  have hne : BitVec.ofNat 8 gap ≠ 255 := fun heq => by
    have : (BitVec.ofNat 8 gap).toNat = 255 := congrArg BitVec.toNat heq
    omega
  rw [readGap, if_neg hne, htoNat]

/-- A gap is read back from the bytes of the encoder's loop (R180, R188). -/
theorem readGap_skipLoop {fuel gap : Nat} (h : gap ≤ fuel) (more : List Byte) :
    readGap (skipLoop fuel gap ++ more) = some (gap, more) := by
  induction fuel generalizing gap with
  | zero => exact readGap_cons_of_lt (by omega) more
  | succ fuel ih =>
    by_cases hgap : gap ≥ 255
    · rw [skipLoop, if_pos hgap, List.cons_append, readGap, if_pos rfl, ih (by omega), Option.map_some,
        Nat.add_sub_cancel' hgap]
    · rw [skipLoop, if_neg hgap]
      exact readGap_cons_of_lt (by omega) more

theorem readGap_skipBytes (gap : Nat) (more : List Byte) : readGap (skipBytes gap ++ more) = some (gap, more) :=
  readGap_skipLoop le_rfl more

theorem readTile_append {tile : List Byte} {n : Nat} (h : tile.length = n) (more : List Byte) :
    readTile n (tile ++ more) = some (tile, more) := by
  subst h
  simp [readTile]

/-- A 16-bit value is the sum of its two bytes, the low one first (R64). -/
theorem le16_bytes {v : Nat} (h : v ≤ 65535) :
    (BitVec.ofNat 8 v).toNat + (BitVec.ofNat 8 (v / 256)).toNat * 256 = v := by
  simp only [BitVec.toNat_ofNat]
  omega

/-- One update of a skip-RLE body: the index comes from the gap before it. -/
theorem readUpdates_succ_append {tile : List Byte} {n next t : Nat} (hnext : next ≤ t) (htile : tile.length = n)
    (count : Nat) (more : List Byte) :
    readUpdates n (count + 1) next (skipBytes (t - next) ++ tile ++ more) =
      (readUpdates n count (t + 1) more).map fun r => ((t, tile) :: r.1, r.2) := by
  rw [List.append_assoc, readUpdates, readGap_skipBytes]
  simp only [readTile_append htile, Nat.add_sub_cancel' hnext]

/-- One pair of a flat record. -/
theorem readPairs_succ_append {tile : List Byte} {n t : Nat} (ht : t ≤ 65535) (htile : tile.length = n) (count : Nat)
    (more : List Byte) :
    readPairs n (count + 1) (le16 t ++ tile ++ more) =
      (readPairs n count more).map fun r => ((t, tile) :: r.1, r.2) := by
  simp only [le16, List.cons_append, List.nil_append, readPairs, readTile_append htile, le16_bytes ht]

theorem decodeSkipRecord_header {count : Nat} (h : count ≤ 65535) (n : Nat) (flags : Byte) (body : List Byte) :
    decodeSkipRecord n ([flags] ++ le16 count ++ body) =
      (readUpdates n count 0 body).map fun r => ⟨flags, r.1, r.2⟩ := by
  simp only [le16, List.cons_append, List.nil_append, decodeSkipRecord, le16_bytes h]

theorem decodeFlatRecord_header {count : Nat} (h : count ≤ 65535) (n : Nat) (body : List Byte) :
    decodeFlatRecord n (le16 count ++ body) = readPairs n count body := by
  simp only [le16, List.cons_append, List.nil_append, decodeFlatRecord, le16_bytes h]

theorem flagsByte_eq (isKey : Bool) : flagsByte isKey = if isKey then 0x01 else 0x00 := by
  cases isKey <;> rfl

/-! ### Decoding a record: the updates -/

section Records

variable {cur : Nat → List Byte} {n : Nat} {U : List Nat} (hcur : ∀ t ∈ U, (cur t).length = n)
include hcur

theorem readUpdates_skipEncodeFrom {next : Nat} (hasc : U.Pairwise (· < ·)) (hnext : ∀ t ∈ U, next ≤ t)
    (more : List Byte) :
    readUpdates n U.length next (skipEncodeFrom cur next U ++ more) = some (U.map fun t => (t, cur t), more) := by
  induction U generalizing next with
  | nil => rfl
  | cons t rest ih =>
    obtain ⟨hhead, htail⟩ := List.pairwise_cons.mp hasc
    have hrest := ih (fun u hu => hcur u (List.mem_cons_of_mem _ hu)) htail (next := t + 1) hhead
    rw [skipEncodeFrom, List.append_assoc, List.length_cons,
      readUpdates_succ_append (hnext t List.mem_cons_self) (hcur t List.mem_cons_self), hrest]
    rfl

/-- A skip-RLE record gives back its flags and its ascending updates, and what follows it stays. -/
theorem decodeSkipRecord_recordSkip (isKey : Bool) (hasc : U.Pairwise (· < ·)) (hlen : U.length ≤ 65535)
    (more : List Byte) :
    decodeSkipRecord n (recordSkip isKey U cur ++ more) =
      some ⟨if isKey then 0x01 else 0x00, U.map fun t => (t, cur t), more⟩ := by
  rw [recordSkip, List.append_assoc, decodeSkipRecord_header hlen, skipEncode,
    readUpdates_skipEncodeFrom hcur hasc fun t _ => t.zero_le, Option.map_some, flagsByte_eq]

theorem readPairs_flatMap (hindex : ∀ t ∈ U, t ≤ 65535) (more : List Byte) :
    readPairs n U.length ((U.flatMap fun t => le16 t ++ cur t) ++ more) = some (U.map fun t => (t, cur t), more) := by
  induction U with
  | nil => rfl
  | cons t rest ih =>
    have hrest := ih (fun u hu => hcur u (List.mem_cons_of_mem _ hu)) fun u hu => hindex u (List.mem_cons_of_mem _ hu)
    rw [List.flatMap_cons, List.append_assoc, List.length_cons,
      readPairs_succ_append (hindex t List.mem_cons_self) (hcur t List.mem_cons_self), hrest]
    rfl

/-- A flat record gives back its updates, and what follows it stays. -/
theorem decodeFlatRecord_recordFlat (hlen : U.length ≤ 65535) (hindex : ∀ t ∈ U, t ≤ 65535) (more : List Byte) :
    decodeFlatRecord n (recordFlat U cur ++ more) = some (U.map fun t => (t, cur t), more) := by
  rw [recordFlat, List.append_assoc, decodeFlatRecord_header hlen, readPairs_flatMap hcur hindex]

end Records

/-! ### The record of the current frame -/

/-- `RECFMT = 0` selects the skip-RLE form (R86). -/
theorem State.record_skip {s : State} (h : s.actCfg.recfmt = false) :
    s.record = recordSkip s.isKey s.updates s.packTile := by
  simp [State.record, h]

/-- `RECFMT = 1` selects the flat form (R86). -/
theorem State.record_flat {s : State} (h : s.actCfg.recfmt = true) : s.record = recordFlat s.updates s.packTile := by
  simp [State.record, h]

theorem State.decodeSkipRecord_record {s : State} (hcount : s.tileCount ≤ 65535) (hform : s.actCfg.recfmt = false) :
    decodeSkipRecord s.tileBytes s.record =
      some ⟨if s.isKey then 0x01 else 0x00, s.updates.map fun k => (k, s.packTile k), []⟩ := by
  rw [State.record_skip hform, ← List.append_nil (recordSkip ..)]
  exact decodeSkipRecord_recordSkip (fun t _ => s.length_packTile t) s.isKey s.updates_ascending
    (s.length_updates_le.trans hcount) []

theorem State.decodeFlatRecord_record {s : State} (hcount : s.tileCount ≤ 65535) (hform : s.actCfg.recfmt = true) :
    decodeFlatRecord s.tileBytes s.record = some (s.updates.map fun k => (k, s.packTile k), []) := by
  rw [State.record_flat hform, ← List.append_nil (recordFlat ..)]
  exact decodeFlatRecord_recordFlat (fun t _ => s.length_packTile t) (s.length_updates_le.trans hcount)
    (fun t ht => (State.lt_tileCount_of_mem_updates ht).le.trans hcount) []

end Sys2Proof.Machine

section

open Sys2Proof Sys2Proof.Machine

/-- Settles O1: what decodes is its instruction's encoding, and every instruction is read back from its own. -/
theorem decodeAndEncodeAgree : Obligations.DecodeAndEncodeAgree :=
  fun _ i _ => ⟨Laws.encode_of_decode, fun h => h ▸ Laws.decode_encode i⟩

/-- Settles O44: the record in progress is `State.record` of the frame, and the decoder of its form reads it back. -/
theorem encodedFrameDecodesToTheChangedTiles : Obligations.EncodedFrameDecodesToTheChangedTiles := by
  intro s t h hpending hvalid hexec
  have haccept := State.cmdEncode_accept (State.busy_eq_false.mpr hpending) hvalid
  obtain rfl : s.acceptFrame = t := haccept.symm.trans (Host.Outcome.next.inj hexec)
  obtain ⟨hcount, -⟩ := h.sizes_le hvalid
  exact ⟨State.decodeSkipRecord_record hcount, State.decodeFlatRecord_record hcount⟩

/-- Settles O60: a line's transaction is what `lineTxn` writes, and a literal that fits its field keeps its value. -/
theorem hostLinesStandForTheirTransactions : Obligations.HostLinesStandForTheirTransactions := by
  refine ⟨fun r => ⟨rfl, Laws.decodeTxn_read r⟩, fun r imm hwf => ?wr, fun off hwf => ?rdRaw, fun off imm hwf => ?wrRaw,
    fun v hwf => ?pix, fun r g b hwf => ?rgb, rfl, rfl, rfl, rfl, rfl, rfl, fun n body => ?rep⟩
  case wr => exact ⟨Laws.toNat_code_write .., Laws.toNat_ofNat_of_immFits hwf, Laws.decodeTxn_write r _⟩
  case rdRaw => exact (Laws.toNat_code_read _).trans (Laws.toNat_ofNat_of_offsetFits hwf)
  case wrRaw =>
    obtain ⟨hoff, himm⟩ := Bool.and_eq_true_iff.mp hwf
    exact ⟨(Laws.toNat_code_write ..).trans (congrArg _ (Laws.toNat_ofNat_of_offsetFits hoff)),
      Laws.toNat_ofNat_of_immFits himm⟩
  case pix => exact ⟨rfl, Laws.toNat_ofNat_of_immFits hwf⟩
  case rgb =>
    obtain ⟨⟨hr, hg⟩, hb⟩ : (r < 256 ∧ g < 256) ∧ b < 256 := by simpa [HostLine.wf, channelFits] using hwf
    have hdata : (lineTxn (.rgb r g b)).data.toNat = r * 65536 + g * 256 + b := Laws.toNat_ofNat_of_lt (by omega)
    obtain ⟨hred, hgreen, hblue⟩ := toNat_channels (lineTxn (.rgb r g b)).data
    rw [hdata] at hred hgreen hblue
    exact ⟨rfl, hdata, by omega, by omega, by omega⟩
  case rep => exact ⟨rfl, by simp [HostLine.rep, List.replicate_succ]⟩

/-- Settles O3, by evaluation of the decoder on the ten words. -/
theorem wordsOfTheTablesDecode : Obligations.WordsOfTheTablesDecode := by
  unfold Obligations.WordsOfTheTablesDecode
  and_intros <;> decide

/-- Settles O29: the modes by the table of the pairs (`CfgReg.mode_eq`), the samples by their bits. -/
theorem quantizerBitsOfEveryMode : Obligations.QuantizerBitsOfEveryMode := by
  intro c d
  refine ⟨?_, ?_, ?_, ?_, ?_, ?_, ?_, ?_, fun m hm => CfgReg.quantize_of_mode hm d, fun hdirect hbpp => ?indexed,
    fun hdirect hbpp => ?rgb332, fun hdirect hbpp => ?rgb333⟩
  case indexed =>
    rw [CfgReg.quantize_indexed hdirect hbpp]
    exact quantizeIndexed_bits d
  case rgb332 =>
    have hmode : c.mode = some .rgb332 := by simp [CfgReg.mode_eq, hdirect, hbpp]
    rw [CfgReg.quantize_of_mode hmode]
    exact quantizeRgb332_bits d
  case rgb333 =>
    have hmode : c.mode = some .rgb333 := by simp [CfgReg.mode_eq, hdirect, hbpp]
    rw [CfgReg.quantize_of_mode hmode]
    exact quantizeRgb333_bits d
  all_goals
    intro hdirect hbpp
    simp_all [CfgReg.mode_eq]

/-- Settles O45: `State.issueCommand` runs what `decodeCommand` reads from the word. -/
theorem commandWordsAndReservedWords : Obligations.CommandWordsAndReservedWords := by
  intro s d
  have hissue : exec (.wrCmd d) s = .next (s.issueCommand d) := rfl
  rw [hissue, State.issueCommand]
  refine ⟨?_, ?_, ?_, fun h0 h1 h2 => ?_, rfl, rfl, rfl⟩
  · rintro rfl
    rw [Laws.decodeCommand_nop]
    rfl
  · rintro rfl
    rw [Laws.decodeCommand_init]
    rfl
  · rintro rfl
    rw [Laws.decodeCommand_encode]
    rfl
  · rw [Laws.decodeCommand_reserved h0 h1 h2]

end

/-! # The pixel port

Settled here: the refusals of a `PIX_DATA` write, the answers of a `PIX_DATA` read, and the `PIX_ADDR` register. What
`execWrPixData` and `execRdPixData` do stands above for an accepted pixel, for a write while busy and for a read without
error; the lemmas here add the other outcomes, one for each error. -/

namespace Sys2Proof.Machine

theorem execWrPixData_notCfg {s : State} (d : Word) (hb : s.busy = false) (hvalid : s.cfgValid = false) :
    execWrPixData d s = .next (s.raiseError .eNotCfg) := by
  simp [execWrPixData, hb, hvalid]

theorem execWrPixData_range {s : State} (d : Word) (hb : s.busy = false) (hvalid : s.cfgValid = true)
    (hrange : s.npix ≤ s.pixAddr.toNat) : execWrPixData d s = .next (s.raiseError .ePixRange) := by
  simp [execWrPixData, hb, hvalid, hrange]

/-- A read that fails raises its error and answers in the same step. -/
theorem State.respond_raiseError (s : State) (code : ErrCode) (off : Offset) (v : Word) :
    (s.raiseError code).respond off v = { s.raiseError code with reads := s.reads ++ [⟨off, v⟩] } := by
  rw [State.respond, State.raiseError_reads]

theorem execRdPixData_notCfg {s : State} (hvalid : s.cfgValid = false) :
    execRdPixData s = .next { s.raiseError .eNotCfg with reads := s.reads ++ [⟨Reg.pixData.offset, 0⟩] } := by
  rw [← State.respond_raiseError]
  simp [execRdPixData, hvalid]

theorem execRdPixData_range {s : State} (hvalid : s.cfgValid = true) (hrange : s.npix ≤ s.pixAddr.toNat) :
    execRdPixData s = .next { s.raiseError .ePixRange with reads := s.reads ++ [⟨Reg.pixData.offset, 0⟩] } := by
  rw [← State.respond_raiseError]
  simp [execRdPixData, hvalid, hrange]

end Sys2Proof.Machine

section

open Sys2Proof Sys2Proof.Machine

/-- Settles O26: the three refusals are the branches of `execWrPixData` before the store, in R120's order. -/
theorem pixelWriteRefusals : Obligations.PixelWriteRefusals := fun _ d =>
  ⟨fun hpending => execWrPixData_busy d (State.busy_eq_true.mpr hpending),
    fun hpending => execWrPixData_notCfg d (State.busy_eq_false.mpr hpending),
    fun hpending => execWrPixData_range d (State.busy_eq_false.mpr hpending)⟩

/-- Settles O27: a sample in range is answered zero-extended, and either error is raised with the answer 0. -/
theorem pixelReadReturnsTheSample : Obligations.PixelReadReturnsTheSample := by
  intro s
  refine ⟨fun hvalid hrange => ?_, execRdPixData_range, execRdPixData_notCfg, rfl⟩
  have hword : (s.canvasAt s.pixAddr.toNat).setWidth 32 = BitVec.ofNat 32 (s.canvasAt s.pixAddr.toNat).toNat :=
    (BitVec.ofNat_toNat ..).symm
  exact (execRdPixData_ok ⟨hvalid, hrange⟩).trans (next_respond_eq s _ hword)

/-- Settles O28: both transactions run in every state, and each writes its one field. -/
theorem pixelAddressRegister : Obligations.PixelAddressRegister := fun _ _ => ⟨rfl, rfl, rfl, rfl⟩

end

/-! # The tile packer

Settled here: where each bit of an indexed tile stands, that unpacking undoes packing, and what a tile buffer depends
on. A byte of the stream and an unpacked sample are both gathered from single bits, so `getLsbD_gatherBits` reads both,
and what follows about the indexed modes is stated bit by bit. -/

namespace Sys2Proof.Machine

/-! ### Words gathered from bits -/

theorem getLsbD_foldl_or {w : Nat} (words : List (BitVec w)) (acc : BitVec w) (k : Nat) :
    (words.foldl (· ||| ·) acc).getLsbD k = (acc.getLsbD k || words.any (·.getLsbD k)) := by
  induction words generalizing acc with
  | nil => simp
  | cons word words ih => simp [ih, Bool.or_assoc]

/-- A bit that is shifted to position `m` stands there and nowhere else. -/
theorem getLsbD_ofBool_shiftLeft {w m k : Nat} (b : Bool) (hm : m < w) :
    (BitVec.setWidth w (BitVec.ofBool b) <<< m).getLsbD k = true ↔ k = m ∧ b = true := by
  rw [BitVec.getLsbD_shiftLeft, BitVec.getLsbD_setWidth, BitVec.getLsbD_ofBool]
  simp only [Bool.and_eq_true, decide_eq_true_eq, Bool.not_eq_true', decide_eq_false_iff_not]
  constructor
  · rintro ⟨⟨hk, hmk⟩, -, hzero, hb⟩
    exact ⟨by omega, hb⟩
  · rintro ⟨rfl, hb⟩
    exact ⟨⟨hm, by omega⟩, by omega, by omega, hb⟩

/-- The word of `n` bits, the earliest in the most significant position: the order of R143 and R149. -/
def gatherBits (w n : Nat) (bit : Nat → Bool) : BitVec w :=
  ((List.range n).map fun i => BitVec.setWidth w (BitVec.ofBool (bit i)) <<< (n - 1 - i)).foldl (· ||| ·) 0

theorem getLsbD_gatherBits {w n : Nat} (bit : Nat → Bool) (hn : n ≤ w) (k : Nat) :
    (gatherBits w n bit).getLsbD k = (decide (k < n) && bit (n - 1 - k)) := by
  have hplace : ∀ i < n, ((BitVec.setWidth w (BitVec.ofBool (bit i)) <<< (n - 1 - i)).getLsbD k = true ↔
      k = n - 1 - i ∧ bit i = true) := fun i hi => getLsbD_ofBool_shiftLeft (bit i) (by omega)
  rw [gatherBits, getLsbD_foldl_or, Bool.eq_iff_iff]
  simp only [BitVec.ofNat_eq_ofNat, BitVec.getLsbD_zero, Bool.false_or, List.any_map, List.any_eq_true, List.mem_range,
    Function.comp_apply, Bool.and_eq_true, decide_eq_true_eq]
  constructor
  · rintro ⟨i, hi, hset⟩
    obtain ⟨rfl, hbit⟩ := (hplace i hi).mp hset
    exact ⟨by omega, by rwa [Nat.sub_sub_self (by omega)]⟩
  · rintro ⟨hk, hbit⟩
    exact ⟨n - 1 - k, by omega, (hplace _ (by omega)).mpr ⟨by omega, hbit⟩⟩

/-! ### Indexed modes -/

theorem streamByte_eq_gatherBits (bit : Nat → Bool) (N : Nat) :
    streamByte bit N = gatherBits 8 8 fun i => bit (8 * N + i) := rfl

theorem unpackIndexed_eq_gatherBits (n : Nat) (buf : List Byte) (p : Nat) :
    unpackIndexed n buf p =
      gatherBits 9 n fun j => (buf.getD ((p * n + j) / 8) 0).getLsbD (7 - (p * n + j) % 8) := rfl

/-- R143: stream bit `k` is bit `7 - k mod 8` of byte `k div 8`. -/
theorem getLsbD_streamByte (bit : Nat → Bool) (k : Nat) : (streamByte bit (k / 8)).getLsbD (7 - k % 8) = bit k := by
  rw [streamByte_eq_gatherBits, getLsbD_gatherBits _ le_rfl, decide_eq_true (by omega), Bool.true_and]
  exact congrArg bit (by omega)

/-- R142: stream bit `p * n + j` is bit `n - 1 - j` of sample `p`. -/
theorem streamBit_mul_add {n j : Nat} (sample : Nat → Sample) (p : Nat) (hj : j < n) :
    streamBit n sample (p * n + j) = (sample p).getLsbD (n - 1 - j) := by
  have hsample : (p * n + j) / n = p := by
    rw [Nat.mul_comm, Nat.mul_add_div (by omega), Nat.div_eq_of_lt hj, Nat.add_zero]
  rw [streamBit, hsample, Nat.mul_add_mod_of_lt hj]

theorem getD_packIndexed {n N : Nat} (sample : Nat → Sample) (hN : N < 8 * n) :
    (packIndexed n sample).getD N 0 = streamByte (streamBit n sample) N := by
  simp [packIndexed, hN]

/-- R142, R143: the place of bit `n - 1 - j` of sample `p` in the buffer. -/
theorem getLsbD_packIndexed {n p j : Nat} (sample : Nat → Sample) (hp : p < 64) (hj : j < n) :
    ((packIndexed n sample).getD ((p * n + j) / 8) 0).getLsbD (7 - (p * n + j) % 8) =
      (sample p).getLsbD (n - 1 - j) := by
  have hstream : p * n + j < 64 * n := blockByte_lt hp hj
  rw [getD_packIndexed sample (by omega), getLsbD_streamByte, streamBit_mul_add sample p hj]

theorem unpackIndexed_packIndexed {n p : Nat} (sample : Nat → Sample) (hn : n ≤ 9) (hp : p < 64) :
    unpackIndexed n (packIndexed n sample) p = ((sample p).setWidth n).setWidth 9 := by
  apply BitVec.eq_of_getLsbD_eq
  intro k hk9
  rw [unpackIndexed_eq_gatherBits, getLsbD_gatherBits _ hn, BitVec.getLsbD_setWidth, BitVec.getLsbD_setWidth,
    decide_eq_true hk9, Bool.true_and]
  by_cases hk : k < n
  · rw [getLsbD_packIndexed sample hp (by omega), Nat.sub_sub_self (by omega)]
  · simp [hk]

/-- R148 for the indexed modes: the stream reads the low `n` bits of samples 0 to 63 and nothing else. -/
theorem packIndexed_congr {n : Nat} {a b : Nat → Sample} (h : ∀ p < 64, (a p).setWidth n = (b p).setWidth n) :
    packIndexed n a = packIndexed n b := by
  have hbit : ∀ k < 64 * n, streamBit n a k = streamBit n b k := by
    intro k hk
    have hn : 0 < n := by omega
    have hlow : n - 1 - k % n < n := by omega
    simpa [streamBit, hlow] using
      congrArg (·.getLsbD (n - 1 - k % n)) (h (k / n) ((Nat.div_lt_iff_lt_mul hn).mpr hk))
  refine List.map_congr_left fun N hN => ?_
  have hbyte : N < 8 * n := List.mem_range.mp hN
  apply BitVec.eq_of_getLsbD_eq
  intro i hi
  simp only [streamByte_eq_gatherBits, getLsbD_gatherBits _ le_rfl]
  rw [hbit _ (by omega)]

/-! ### Direct modes -/

theorem getD_packRgb332 {p : Nat} (sample : Nat → Sample) (hp : p < 64) :
    (packRgb332 sample).getD p 0 = (sample p).setWidth 8 := by
  simp [packRgb332, hp, BitVec.setWidth_eq_extractLsb']

/-- R146: sample `p` is the little-endian word at byte `2 * p`. -/
theorem getD_packRgb333 {p : Nat} (sample : Nat → Sample) (hp : p < 64) :
    (packRgb333 sample).getD (2 * p) 0 = (sample p).extractLsb' 0 8 ∧
      (packRgb333 sample).getD (2 * p + 1) 0 = ((sample p).extractLsb' 8 1).setWidth 8 := by
  have hword {j : Nat} (hj : j < 2) := getElem?_flatMap_range (m := 64) (n := 2) (j := j)
    (f := fun p => [(sample p).extractLsb' 0 8, ((sample p).extractLsb' 8 1).setWidth 8]) (fun _ => rfl) hp hj
  rw [Nat.mul_comm 2 p, List.getD_eq_getElem?_getD, List.getD_eq_getElem?_getD, packRgb333, ← Nat.add_zero (p * 2),
    hword zero_lt_two, Nat.add_zero, hword one_lt_two]
  exact ⟨rfl, rfl⟩

/-- Bit 8 of a sample, packed as a byte of its own, and the low byte are the whole sample (R146). -/
theorem ofBool_high_append_low (v : Sample) :
    BitVec.ofBool (((v.extractLsb' 8 1).setWidth 8).getLsbD 0) ++ v.extractLsb' 0 8 = v := by
  apply BitVec.eq_of_getLsbD_eq
  intro i hi
  rw [BitVec.getLsbD_append]
  split
  · next hlow => simp [hlow]
  · obtain rfl : i = 8 := by omega
    simp

/-! ### Every mode -/

/-- R149: unpacking gives back the low `BPP` bits. -/
theorem Mode.unpack_pack (m : Mode) (sample : Nat → Sample) {p : Nat} (hp : p < 64) :
    m.unpack (m.pack sample) p = ((sample p).setWidth m.depth).setWidth 9 := by
  cases m with
  | idx1 | idx2 | idx4 | idx8 => exact unpackIndexed_packIndexed sample (by decide) hp
  | rgb332 => exact congrArg (BitVec.setWidth 9) (getD_packRgb332 sample hp)
  | rgb333 =>
    obtain ⟨hlow, hhigh⟩ := getD_packRgb333 sample hp
    simp only [Mode.unpack, Mode.pack, Mode.depth, hlow, hhigh, ofBool_high_append_low, BitVec.setWidth_eq]

theorem Mode.pack_congr (m : Mode) {a b : Nat → Sample}
    (h : ∀ p < 64, (a p).setWidth m.depth = (b p).setWidth m.depth) : m.pack a = m.pack b := by
  cases m with
  | idx1 | idx2 | idx4 | idx8 => exact packIndexed_congr h
  | rgb332 => exact List.map_congr_left fun p hp => h p (List.mem_range.mp hp)
  | rgb333 =>
    have hsample : ∀ p ∈ List.range 64, a p = b p := fun p hp => by
      simpa [Mode.depth] using h p (List.mem_range.mp hp)
    rw [Mode.pack, Mode.pack, packRgb333, packRgb333]
    exact List.flatMap_congr fun p hp => by rw [hsample p hp]

theorem State.packTile_of_mode {s : State} {m : Mode} (h : s.actCfg.mode = some m) (t : Nat) :
    s.packTile t = m.pack (s.tileSample t) := by
  simp [State.packTile, h]

end Sys2Proof.Machine

section

open Sys2Proof Sys2Proof.Machine

/-- Settles O33, at any number of bits (`getLsbD_packIndexed`). -/
theorem indexedPackingPlacesEachBit : Obligations.IndexedPackingPlacesEachBit :=
  fun _ sample _ _ _ hp hj => getLsbD_packIndexed sample hp hj

/-- Settles O34: the block packs the canvas samples of the tile, and unpacking is the inverse mode by mode. -/
theorem unpackOfPackIsTheLowBits : Obligations.UnpackOfPackIsTheLowBits := by
  refine ⟨fun m sample p => m.unpack_pack sample, fun s m k p hmode hp => ?_, rfl, rfl, rfl, rfl, rfl, rfl⟩
  rw [State.packTile_of_mode hmode, m.unpack_pack _ hp, State.tileSample]

/-- Settles O35: a mode packs alike what agrees in the low bits (`Mode.pack_congr`). -/
theorem tileBufferDependsOnlyOnItsSamples : Obligations.TileBufferDependsOnlyOnItsSamples := by
  intro s t m k hs ht hsamples
  rw [State.packTile_of_mode hs, State.packTile_of_mode ht, m.pack_congr hsamples]

end

/-! # The comparator

Settled here: which tiles are updates, that a frame encoded again has none, and what a keyframe's record depends on.
The change test is put as a comparison byte by byte (`State.mem_updates_iff`), and everything the record takes from the
canvas goes through the pixels of the tiles (`State.packTile_congr`), which all lie on the canvas
(`DimReg.tilePixel_lt_npix`). -/

namespace Sys2Proof.Machine

/-! ### The change test -/

theorem State.getElem_prevTile (s : State) (k : Nat) {j : Nat} (hj : j < (s.prevTile k).length) :
    (s.prevTile k)[j] = s.prevByte (k * s.tileBytes + j) := by
  simp [State.prevTile]

/-- A tile's buffer is the retained one exactly if it agrees with it in each of its bytes (R162). -/
theorem State.packTile_eq_prevTile_iff (s : State) (k : Nat) :
    s.packTile k = s.prevTile k ↔ ∀ j < s.tileBytes, (s.packTile k).getD j 0 = s.prevByte (k * s.tileBytes + j) := by
  have hlen : (s.prevTile k).length = s.tileBytes := by simp [State.prevTile]
  constructor
  · intro heq j hj
    rw [heq, List.getD_eq_getElem _ _ (by omega), s.getElem_prevTile]
  · refine fun hbytes => List.ext_getElem ((s.length_packTile k).trans hlen.symm) fun j hj hj' => ?_
    rw [s.getElem_prevTile, ← hbytes j (hlen ▸ hj'), List.getD_eq_getElem _ _ hj]

theorem State.changed_iff (s : State) (k : Nat) :
    s.changed k = true ↔
      s.isKey = true ∨ ∃ j < s.tileBytes, (s.packTile k).getD j 0 ≠ s.prevByte (k * s.tileBytes + j) := by
  rw [State.changed, Bool.or_eq_true, bne_iff_ne, Ne, s.packTile_eq_prevTile_iff]
  simp only [not_forall, exists_prop, ne_eq]

/-- R163: membership in the update list. -/
theorem State.mem_updates_iff (s : State) (k : Nat) :
    k ∈ s.updates ↔ k < s.tileCount ∧
      (s.isKey = true ∨ ∃ j < s.tileBytes, (s.packTile k).getD j 0 ≠ s.prevByte (k * s.tileBytes + j)) := by
  rw [State.updates, List.mem_filter, List.mem_range, s.changed_iff]

/-- R162, R165: a keyframe updates every tile, and `Prev` is not read. -/
theorem State.updates_of_isKey {s : State} (hkey : s.isKey = true) : s.updates = List.range s.tileCount :=
  List.filter_eq_self.mpr fun k _ => (s.changed_iff k).mpr (.inl hkey)

/-- A frame that is no keyframe has no update if `Prev` holds each of its tiles. -/
theorem State.updates_eq_nil {s : State} (hkey : s.isKey = false)
    (hprev : ∀ k < s.tileCount, ∀ j < s.tileBytes,
      s.prevByte (k * s.tileBytes + j) = (s.packTile k).getD j 0) : s.updates = [] := by
  refine List.eq_nil_iff_forall_not_mem.mpr fun k hmem => ?_
  obtain ⟨hk, hkey' | ⟨j, hj, hdiff⟩⟩ := (s.mem_updates_iff k).mp hmem
  · exact absurd hkey' (by simp [hkey])
  · exact hdiff (hprev k hk j hj).symm

/-! ### What a tile buffer takes from the canvas -/

/-- Every pixel of a tile lies on the canvas; a canvas that is not of whole tiles has its rest outside every tile. -/
theorem DimReg.tilePixel_lt_npix {d : DimReg} {t p : Nat} (ht : t < d.tileCount) (hp : p < 64) :
    d.tilePixel t p < d.npix := by
  have hpos : 0 < d.tilesX := Nat.pos_of_ne_zero fun h => by simp [DimReg.tileCount, h] at ht
  have hcolumn : t % d.tilesX * 8 + p % 8 < d.width.toNat :=
    (blockByte_lt (Nat.mod_lt t hpos) (Nat.mod_lt p (by decide))).trans_le (Nat.div_mul_le_self ..)
  have hrow : t / d.tilesX * 8 + p / 8 < d.height.toNat :=
    (blockByte_lt (Nat.div_lt_of_lt_mul ht) (Nat.div_lt_of_lt_mul hp)).trans_le (Nat.div_mul_le_self ..)
  exact (blockByte_lt hrow hcolumn).trans_eq (Nat.mul_comm ..)

theorem State.packTile_of_no_mode {s : State} (h : s.actCfg.mode = none) (k : Nat) : s.packTile k = [] := by
  simp [State.packTile, h]

/-- Two states with equal active configurations pack a tile alike if their canvases agree (R148). -/
theorem State.packTile_congr {s t : State} (hcfg : s.actCfg = t.actCfg) (hdim : s.actDim = t.actDim)
    (hcanvas : ∀ i < s.npix, s.canvasAt i = t.canvasAt i) {k : Nat} (hk : k < s.tileCount) :
    s.packTile k = t.packTile k := by
  have hsample (p : Nat) (hp : p < 64) : s.tileSample k p = t.tileSample k p := by
    rw [State.tileSample, State.tileSample, ← hdim]
    exact hcanvas _ (DimReg.tilePixel_lt_npix hk hp)
  cases hmode : s.actCfg.mode with
  | none => rw [State.packTile_of_no_mode hmode, State.packTile_of_no_mode (hcfg ▸ hmode)]
  | some m =>
    rw [State.packTile_of_mode hmode, State.packTile_of_mode (hcfg ▸ hmode)]
    exact m.pack_congr fun p hp => congrArg _ (hsample p hp)

/-! ### What a record depends on -/

section Congr

variable {cur cur' : Nat → List Byte} {U : List Nat} (hcur : ∀ t ∈ U, cur t = cur' t)
include hcur

theorem skipEncodeFrom_congr (prevIndex : Nat) : skipEncodeFrom cur prevIndex U = skipEncodeFrom cur' prevIndex U := by
  induction U generalizing prevIndex with
  | nil => rfl
  | cons t rest ih =>
    rw [skipEncodeFrom, skipEncodeFrom, hcur t List.mem_cons_self,
      ih fun u hu => hcur u (List.mem_cons_of_mem _ hu)]

theorem recordSkip_congr (isKey : Bool) : recordSkip isKey U cur = recordSkip isKey U cur' :=
  congrArg ([flagsByte isKey] ++ le16 U.length ++ ·) (skipEncodeFrom_congr hcur 0)

theorem recordFlat_congr : recordFlat U cur = recordFlat U cur' :=
  congrArg (le16 U.length ++ ·) (List.flatMap_congr fun t ht => congrArg (le16 t ++ ·) (hcur t ht))

end Congr

/-- Frames of one kind and one form, with the same updates and the same buffers for them, have the same record. -/
theorem State.record_congr {s t : State} (hcfg : s.actCfg = t.actCfg) (hkey : s.isKey = t.isKey)
    (hupdates : s.updates = t.updates) (htiles : ∀ k ∈ s.updates, s.packTile k = t.packTile k) :
    s.record = t.record := by
  cases hform : s.actCfg.recfmt with
  | false =>
    rw [State.record_skip hform, State.record_skip (hcfg ▸ hform), ← hkey, ← hupdates, recordSkip_congr htiles]
  | true => rw [State.record_flat hform, State.record_flat (hcfg ▸ hform), ← hupdates, recordFlat_congr htiles]

/-- Without an update the record is its header (R183, R184). -/
theorem State.record_of_updates_eq_nil {s : State} (hkey : s.isKey = false) (hnone : s.updates = []) :
    s.record = if s.actCfg.recfmt then [0x00, 0x00] else [0x00, 0x00, 0x00] := by
  rw [State.record, hnone, hkey]
  rfl

end Sys2Proof.Machine

section

open Sys2Proof Sys2Proof.Machine

/-- Settles O36: the update list is the range of the tiles, filtered by the change test (`State.mem_updates_iff`). -/
theorem updatesAreTheChangedTilesAscending : Obligations.UpdatesAreTheChangedTilesAscending :=
  fun s => ⟨s.updates_ascending, s.length_updates_le, s.mem_updates_iff, State.updates_of_isKey, s.isKey_iff⟩

/-- Settles O37: the accepted frame left its own tiles in `Prev`, and `u` packs the same ones. -/
theorem unchangedFrameHasNoUpdate : Obligations.UnchangedFrameHasNoUpdate := by
  intro s t u hpending hvalid hexec hcfg hdim hcanvas hprev hkey
  have haccept := State.cmdEncode_accept (State.busy_eq_false.mpr hpending) hvalid
  obtain rfl : s.acceptFrame = t := haccept.symm.trans (Host.Outcome.next.inj hexec)
  have hcount : u.tileCount = s.tileCount := congrArg DimReg.tileCount hdim
  have hbytes : u.tileBytes = s.tileBytes := congrArg CfgReg.tileBytes hcfg
  have hnone : u.updates = [] := State.updates_eq_nil hkey fun k hk j hj => by
    rw [hprev _ (blockByte_lt hk hj), State.packTile_congr hcfg hdim (fun i _ => hcanvas i) hk, hbytes]
    exact s.prevByte_acceptFrame_tile (hcount ▸ hk) (hbytes ▸ hj)
  exact ⟨hnone, State.record_of_updates_eq_nil hkey hnone⟩

/-- Settles O38: a keyframe updates every tile, and every tile is packed from the canvas. -/
theorem keyframeRecordDependsOnTheCanvasAlone : Obligations.KeyframeRecordDependsOnTheCanvasAlone := by
  intro s t hs ht hcfg hdim hcanvas
  have hcount : s.tileCount = t.tileCount := congrArg DimReg.tileCount hdim
  have hupdates : s.updates = t.updates := by
    rw [State.updates_of_isKey hs, State.updates_of_isKey ht, hcount]
  exact State.record_congr hcfg (hs.trans ht.symm) hupdates fun k hk =>
    State.packTile_congr hcfg hdim hcanvas (State.lt_tileCount_of_mem_updates hk)

end

/-! # Skip-RLE and the records

Settled here: the bytes of a gap, the lengths of the two record forms, and that each form decodes to its updates. New
are the closed form of the gap loop (`skipLoop_eq`) and the exact length of a skip-RLE body
(`length_skipEncodeFrom`); the decoders are those of `decodeSkipRecord_recordSkip` and `decodeFlatRecord_recordFlat`. -/

namespace Sys2Proof.Machine

/-- The gap loop in closed form (R181): each turn takes one 255 off, and the bound on the turns is not met. -/
theorem skipLoop_eq {fuel gap : Nat} (h : gap ≤ fuel) :
    skipLoop fuel gap = List.replicate (gap / 255) 255 ++ [BitVec.ofNat 8 (gap % 255)] := by
  induction fuel generalizing gap with
  | zero => rw [Nat.le_zero.mp h]; rfl
  | succ fuel ih =>
    by_cases hgap : gap ≥ 255
    · have hdiv : gap / 255 = (gap - 255) / 255 + 1 := Nat.div_eq_sub_div (by decide) hgap
      have hmod : gap % 255 = (gap - 255) % 255 := Nat.mod_eq_sub_mod hgap
      rw [skipLoop, if_pos hgap, ih (by omega), hdiv, hmod]
      rfl
    · have hlt : gap < 255 := Nat.lt_of_not_le hgap
      rw [skipLoop, if_neg hgap, Nat.div_eq_of_lt hlt, Nat.mod_eq_of_lt hlt]
      rfl

section ExactRecordLength

variable {cur : Nat → List Byte} {n : Nat} {U : List Nat} (hcur : ∀ t ∈ U, (cur t).length = n)
include hcur

/-- A skip-RLE body takes the buffers and one skip for each update; the gap of an update is counted from the one before
it plus 1, and that of the first from `prevIndex`. -/
theorem length_skipEncodeFrom (prevIndex : Nat) :
    (skipEncodeFrom cur prevIndex U).length =
      U.length * n + ((U.zip (prevIndex :: U.map (· + 1))).map fun g => (g.1 - g.2) / 255 + 1).sum := by
  induction U generalizing prevIndex with
  | nil => simp [skipEncodeFrom]
  | cons t rest ih =>
    have hrest := ih (fun u hu => hcur u (List.mem_cons_of_mem _ hu)) (t + 1)
    simp only [skipEncodeFrom, List.length_append, length_skipBytes, hcur t List.mem_cons_self, hrest, List.length_cons,
      List.map_cons, List.zip_cons_cons, List.sum_cons, Nat.succ_mul]
    omega

theorem length_recordSkip (isKey : Bool) :
    (recordSkip isKey U cur).length =
      3 + U.length * n + ((U.zip (0 :: U.map (· + 1))).map fun g => (g.1 - g.2) / 255 + 1).sum := by
  simp only [recordSkip, skipEncode, List.length_append, List.length_singleton, length_le16,
    length_skipEncodeFrom hcur 0, Nat.add_assoc, Nat.reduceAdd]

/-- `length_recordFlat` for buffers whose length is known at the updates alone. -/
theorem length_recordFlat_of_mem : (recordFlat U cur).length = 2 + U.length * (2 + n) := by
  have hpair : ∀ t ∈ U, (le16 t ++ cur t).length = 2 + n := fun t ht => by
    rw [List.length_append, length_le16, hcur t ht]
  rw [recordFlat, List.length_append, length_le16, List.length_flatMap, List.map_congr_left hpair, List.map_const',
    List.sum_replicate, smul_eq_mul]

end ExactRecordLength

end Sys2Proof.Machine

section

open Sys2Proof Sys2Proof.Machine

/-- Settles O42: the decoder reads each index back from its gap, and each buffer by its length. -/
theorem skipRecordDecodesToItsUpdates : Obligations.SkipRecordDecodesToItsUpdates :=
  fun _ _ _ key more hasc hlen hcur => decodeSkipRecord_recordSkip hcur key hasc hlen more

/-- Settles O40: a gap is its own bound on the turns of the loop. -/
theorem skipBytesOfAGap : Obligations.SkipBytesOfAGap :=
  fun _ => skipLoop_eq le_rfl

/-- Settles O41: in both forms each update adds its buffer, with a two-byte index or with the skip of its gap. -/
theorem recordLengths : Obligations.RecordLengths :=
  fun _ _ _ key hcur => ⟨length_recordFlat_of_mem hcur, length_recordSkip hcur key⟩

/-- Settles O43: the header's count and each index fit in 16 bits, so the decoder reads them back. -/
theorem flatRecordDecodesToItsUpdates : Obligations.FlatRecordDecodesToItsUpdates :=
  fun _ _ _ more hlen h =>
    decodeFlatRecord_recordFlat (fun t ht => (h t ht).2) hlen (fun t ht => (h t ht).1) more

end

/-! # Commands, the engine and the output

Settled here: the order of the configuration check, the answers of `CMD`, of the session registers and of the output
FIFO, the refusals of ENCODE, what an INIT and reset discard, the stalled engine, and how long an interrupt stays
asserted. The statements on a step come from its inversion (`step_effect`): one lemma for each field they speak of says
which of the effects can change it. -/

namespace Sys2Proof.Machine

/-! ### The configuration check, test by test -/

/-- The `(DIRECT, BPP)` pairs that name a mode (R85). -/
theorem CfgReg.mode_ne_none_iff (c : CfgReg) :
    c.mode ≠ none ↔
      (c.direct = false ∧ c.bpp.toNat ∈ [1, 2, 4, 8]) ∨ (c.direct = true ∧ c.bpp.toNat ∈ [8, 9]) := by
  have hall : ∀ (bpp : BitVec 4) (direct recfmt : Bool), CfgReg.mode ⟨bpp, direct, recfmt⟩ ≠ none ↔
      (direct = false ∧ bpp.toNat ∈ [1, 2, 4, 8]) ∨ (direct = true ∧ bpp.toNat ∈ [8, 9]) := by decide
  exact hall c.bpp c.direct c.recfmt

/-- `TILE_BYTES` of a legal pair, where only `DIRECT` and `BPP = 8` need telling apart (R26). -/
theorem CfgReg.tileBytes_of_mode {c : CfgReg} (h : c.mode ≠ none) :
    c.tileBytes = if c.direct then (if c.bpp.toNat = 8 then 64 else 128) else 8 * c.bpp.toNat := by
  rw [CfgReg.tileBytes_eq]
  obtain ⟨hdirect, hbpp⟩ | ⟨hdirect, hbpp⟩ := c.mode_ne_none_iff.mp h
  · rw [if_pos ⟨hdirect, hbpp⟩, if_neg (by simp [hdirect])]
  · obtain hbpp | hbpp : c.bpp.toNat = 8 ∨ c.bpp.toNat = 9 := by simpa using hbpp
    all_goals simp [hdirect, hbpp]

theorem cfgCheck_of_mode_eq_none {c : CfgReg} (h : c.mode = none) (d : DimReg) (canvasCap prevCap : Word) :
    cfgCheck c d canvasCap prevCap = .eCfgBpp := by
  simp [cfgCheck, h]

/-- The tests after the first, for a legal pair, each as R214 says it: what must hold, not what must fail. -/
theorem cfgCheck_of_mode_ne_none {c : CfgReg} (h : c.mode ≠ none) (d : DimReg) (canvasCap prevCap : Word) :
    cfgCheck c d canvasCap prevCap =
      if ¬ (d.width.toNat ≠ 0 ∧ d.height.toNat ≠ 0 ∧ d.width.toNat % 8 = 0 ∧ d.height.toNat % 8 = 0) then
        .eCfgDim
      else if ¬ d.tileCount ≤ 65535 then .eCfgTiles
      else if ¬ (d.npix ≤ canvasCap.toNat ∧ d.tileCount * c.tileBytes ≤ prevCap.toNat) then .eCfgCap
      else .eNone := by
  obtain ⟨m, hm⟩ := Option.ne_none_iff_exists'.mp h
  simp only [cfgCheck, CfgReg.tileBytes, hm, not_and_or, not_not, not_le, ne_eq, gt_iff_lt]

/-! ### The answers of the session registers and of the FIFO -/

/-- VALID is worth 256 above the byte (R219). -/
theorem outDataWord_eq (b : Byte) : outDataWord b = BitVec.ofNat 32 (256 + b.toNat) := by
  apply BitVec.eq_of_toNat_eq
  have hor : 256 + b.toNat = 256 ||| b.toNat := Nat.two_pow_add_eq_or_of_lt (i := 8) b.isLt 1
  have hlt : b.toNat < 256 := b.isLt
  rw [outDataWord, BitVec.toNat_or, BitVec.toNat_setWidth, BitVec.toNat_ofNat, Nat.mod_eq_of_lt (by omega),
    Nat.mod_eq_of_lt (by omega), hor]
  rfl

/-- R217: while busy the answer is a draw, which is used up. -/
theorem next_respondUnlessBusy_busy {s : State} (hb : s.busy = true) (off : Offset) (v : Word) {drawn : Nat → Word}
    {w : Word} (h : drawn s.readDraws = w) :
    (.next (s.respondUnlessBusy off v drawn) : Host.Outcome State Fault Refusal) =
      .next { s with readDraws := s.readDraws + 1, reads := s.reads ++ [⟨off, w⟩] } := by
  rw [State.respondUnlessBusy_busy hb]
  exact next_respond_eq { s with readDraws := s.readDraws + 1 } off h

/-- R217: while idle it is the register's value. -/
theorem next_respondUnlessBusy_idle {s : State} (hb : s.busy = false) (off : Offset) {v w : Word} (h : v = w)
    (drawn : Nat → Word) :
    (.next (s.respondUnlessBusy off v drawn) : Host.Outcome State Fault Refusal) =
      .next { s with reads := s.reads ++ [⟨off, w⟩] } := by
  rw [State.respondUnlessBusy_idle hb]
  exact next_respond_eq s off h

theorem State.popOutput_nil {s : State} (h : s.ofifo = []) : s.popOutput = s.respond Reg.outData.offset 0 := by
  simp [State.popOutput, h]

theorem State.popOutput_cons {s : State} {b : Byte} {rest : List Byte} (h : s.ofifo = b :: rest) :
    s.popOutput = { s with ofifo := rest }.respond Reg.outData.offset (outDataWord b) := by
  simp [State.popOutput, h]

/-! ### Commands that discard output, and that are refused -/

theorem State.cmdEncode_notCfg {s : State} (hb : s.busy = false) (hvalid : s.cfgValid = false) :
    s.cmdEncode = s.raiseError .eNotCfg := by
  simp [State.cmdEncode, hb, hvalid]

theorem State.issueCommand_init (s : State) : s.issueCommand 1 = s.cmdInit := by
  rw [State.issueCommand, Laws.decodeCommand_init]

/-- An INIT that is carried out empties the FIFO, whether or not its check passes, and the host keeps what it has
read (R213). -/
theorem State.cmdInit_discards {s : State} (hb : s.busy = false) :
    s.cmdInit.reads = s.reads ∧ s.cmdInit.ofifo = [] ∧ s.cmdInit.pending = [] := by
  have hpending : s.pending = [] := State.busy_eq_false.mp hb
  by_cases hcheck : s.stagedCheck = .eNone
  · simp [State.cmdInit_pass hb hcheck, hpending]
  · simp [State.cmdInit_fail hb hcheck, hpending]

theorem step_discards {s t : State} (hdiscards : s.discardsOutput) (hstep : step s = .next t) :
    t.reads = s.reads ∧ t.ofifo = [] ∧ t.pending = [] := by
  obtain ⟨⟨rest, hin⟩, hidle⟩ | ⟨rest, hin⟩ := hdiscards
  · rw [step_host hin] at hstep
    obtain rfl := Host.Outcome.next.inj ((hostTransaction_write .cmd 1 _).symm.trans hstep)
    rw [State.issueCommand_init]
    exact State.cmdInit_discards (s := { s with inputs := rest }) hidle
  · obtain rfl := Host.Outcome.next.inj ((step_reset hin).symm.trans hstep)
    exact ⟨rfl, rfl, rfl⟩

/-! ### The output FIFO of a stalled block -/

theorem CommandEffect.ofifo_of_busy {s t : State} {d : Word} (he : CommandEffect s d t) (hb : s.busy = true) :
    t.ofifo = s.ofifo := by
  cases he with
  | startSession hidle | failSession hidle => simp [hb] at hidle
  | _ => simp

/-- While busy only a pop takes a byte from the FIFO: an INIT, which would empty it, is refused. -/
theorem TxnEffect.ofifo_of_busy {s t : State} {tx : Txn} (he : TxnEffect s tx t) (hb : s.busy = true)
    (hpop : tx ≠ .read Reg.outData.offset) : t.ofifo = s.ofifo := by
  cases he with
  | pop => exact absurd rfl hpop
  | issue d => exact (s.issueCommand_effect d).ofifo_of_busy hb
  | unmapped => cases tx <;> simp [State.unmappedAccess]
  | _ => simp

/-! ### The interrupt's sources and enables: what a transaction can do to them -/

/-- `IRQ_EN` holds what it held, or the fields of the word written to it (R246). -/
theorem TxnEffect.irqEn_cases {s t : State} {tx : Txn} (he : TxnEffect s tx t) :
    t.irqEn = s.irqEn ∨ ∃ d, tx = .write Reg.irqEn.offset d ∧ t.irqEn = IrqEnReg.ofWord d := by
  cases he with
  | writeIrqEn d => exact .inr ⟨d, rfl, rfl⟩
  | issue d => exact .inl (s.issueCommand_effect d).sameHostRegs.irqEn
  | unmapped => exact .inl (s.unmappedAccess_sameHostRegs tx).irqEn
  | _ => exact .inl (by simp)

theorem CommandEffect.done_cases {s t : State} {d : Word} (he : CommandEffect s d t) :
    t.done = s.done ∨ (d = 1 ∧ s.busy = false) ∨ (d = 2 ∧ s.busy = false ∧ s.cfgValid = true) := by
  cases he with
  | startSession hidle | failSession hidle => exact .inr (.inl ⟨rfl, hidle⟩)
  | acceptFrame hidle hvalid => exact .inr (.inr ⟨rfl, hidle, hvalid⟩)
  | _ => exact .inl (by simp)

/-- `DONE` changes only by a write of `STATUS` that clears it, an INIT that is carried out, and an accepted ENCODE. -/
theorem TxnEffect.done_cases {s t : State} {tx : Txn} (he : TxnEffect s tx t) :
    t.done = s.done ∨ (∃ d, tx = .write Reg.status.offset d ∧ d.getLsbD 2 = true) ∨
      (tx = .write Reg.cmd.offset 1 ∧ s.busy = false) ∨
      (tx = .write Reg.cmd.offset 2 ∧ s.busy = false ∧ s.cfgValid = true) := by
  cases he with
  | clearDone d hdone | clearBoth d hdone => exact .inr (.inl ⟨d, rfl, hdone⟩)
  | issue d =>
    obtain hsame | ⟨rfl, hidle⟩ | ⟨rfl, haccepted⟩ := (s.issueCommand_effect d).done_cases
    · exact .inl hsame
    · exact .inr (.inr (.inl ⟨rfl, hidle⟩))
    · exact .inr (.inr (.inr ⟨rfl, haccepted⟩))
  | unmapped => exact .inl (by cases tx <;> simp [State.unmappedAccess])
  | _ => exact .inl (by simp)

theorem CommandEffect.err_eq_true {s t : State} {d : Word} (he : CommandEffect s d t) (herr : s.err = true) :
    t.err = true := by
  cases he <;> simp [herr]

/-- `ERR` stays set but for a write of `STATUS` that clears it. -/
theorem TxnEffect.err_cases {s t : State} {tx : Txn} (he : TxnEffect s tx t) (herr : s.err = true) :
    t.err = true ∨ ∃ d, tx = .write Reg.status.offset d ∧ d.getLsbD 3 = true := by
  cases he with
  | clearErr d _ hclears | clearBoth d _ hclears => exact .inr ⟨d, rfl, hclears⟩
  | issue d => exact .inl ((s.issueCommand_effect d).err_eq_true herr)
  | unmapped => exact .inl (by cases tx <;> simp [State.unmappedAccess])
  | _ => exact .inl (by simp [herr])

/-! ### The interrupt's sources and enables: what a step can do to them -/

theorem State.engineTurn_done {s : State} (h : s.done = true) : s.engineTurn.done = true := by
  obtain ⟨-, heq⟩ | ⟨b, rest, -, -, heq⟩ := s.engineTurn_cases <;> rw [heq] <;> simp [h]

@[simp] theorem State.engineTurn_err (s : State) : s.engineTurn.err = s.err := by
  obtain ⟨-, heq⟩ | ⟨b, rest, -, -, heq⟩ := s.engineTurn_cases <;> rw [heq]

section StepWithoutReset

variable {s t : State} (hstep : step s = .next t) (hreset : ¬ s.nextIsReset)
include hstep hreset

theorem step_irqEn_cases :
    t.irqEn = s.irqEn ∨ ∃ d, s.nextIs (.write Reg.irqEn.offset d) ∧ t.irqEn = IrqEnReg.ofWord d := by
  cases step_effect hstep with
  | engine rest => exact .inl (State.engineTurn_sameHostRegs _).irqEn
  | reset rest hin => exact absurd ⟨rest, hin⟩ hreset
  | host tx rest hin _ heffect =>
    obtain hsame | ⟨d, rfl, hwritten⟩ := heffect.irqEn_cases
    · exact .inl hsame
    · exact .inr ⟨d, ⟨rest, hin⟩, hwritten⟩

/-- An enable that is set stays set, unless the word written to `IRQ_EN` has its bit clear. -/
theorem step_irqEn_bit {enable : IrqEnReg → Bool} {bit : Nat}
    (hbit : ∀ d, enable (IrqEnReg.ofWord d) = d.getLsbD bit) (hset : enable s.irqEn = true)
    (hwrite : ∀ d, s.nextIs (.write Reg.irqEn.offset d) → d.getLsbD bit = true) : enable t.irqEn = true := by
  obtain hsame | ⟨d, hnext, hwritten⟩ := step_irqEn_cases hstep hreset
  · rw [hsame, hset]
  · rw [hwritten, hbit, hwrite d hnext]

theorem step_done_cases (hdone : s.done = true) :
    t.done = true ∨ (∃ d, s.nextIs (.write Reg.status.offset d) ∧ d.getLsbD 2 = true) ∨ s.runsInit ∨
      s.acceptsEncode := by
  cases step_effect hstep with
  | engine rest => exact .inl (State.engineTurn_done hdone)
  | reset rest hin => exact absurd ⟨rest, hin⟩ hreset
  | host tx rest hin _ heffect =>
    obtain hsame | ⟨d, rfl, hclears⟩ | ⟨rfl, hidle⟩ | ⟨rfl, haccepted⟩ := heffect.done_cases
    · exact .inl (hsame.trans hdone)
    · exact .inr (.inl ⟨d, ⟨rest, hin⟩, hclears⟩)
    · exact .inr (.inr (.inl ⟨⟨rest, hin⟩, hidle⟩))
    · exact .inr (.inr (.inr ⟨⟨rest, hin⟩, haccepted⟩))

theorem step_err_cases (herr : s.err = true) :
    t.err = true ∨ ∃ d, s.nextIs (.write Reg.status.offset d) ∧ d.getLsbD 3 = true := by
  cases step_effect hstep with
  | engine rest => exact .inl ((State.engineTurn_err _).trans herr)
  | reset rest hin => exact absurd ⟨rest, hin⟩ hreset
  | host tx rest hin _ heffect =>
    obtain hkept | ⟨d, rfl, hclears⟩ := heffect.err_cases herr
    · exact .inl hkept
    · exact .inr ⟨d, ⟨rest, hin⟩, hclears⟩

end StepWithoutReset

end Sys2Proof.Machine

section

open Sys2Proof Sys2Proof.Machine

/-- Settles O19: a source falls, and an enable is cleared, only by one of the events that the statement excludes. -/
theorem interruptStaysAssertedUntilCleared : Obligations.InterruptStaysAssertedUntilCleared := by
  intro s t hstep hreset
  refine ⟨fun hdone hie hstatus hirqEn hinit hencode => ?_, fun herr hie hstatus hirqEn => ?_⟩
  · have hie' : t.irqEn.doneIe = true := step_irqEn_bit hstep hreset (fun _ => rfl) hie hirqEn
    obtain hdone' | ⟨d, hnext, hclears⟩ | hruns | haccepts := step_done_cases hstep hreset hdone
    · exact ⟨hdone', hie', by simp [State.irq, hdone', hie']⟩
    · exact absurd ((hstatus d hnext).symm.trans hclears) Bool.false_ne_true
    · exact absurd hruns hinit
    · exact absurd haccepts hencode
  · have hie' : t.irqEn.errIe = true := step_irqEn_bit hstep hreset (fun _ => rfl) hie hirqEn
    obtain herr' | ⟨d, hnext, hclears⟩ := step_err_cases hstep hreset herr
    · exact ⟨herr', hie', by simp [State.irq, herr', hie']⟩
    · exact absurd ((hstatus d hnext).symm.trans hclears) Bool.false_ne_true

/-- Settles O47: an illegal pair ends the check, and for a legal one its other tests are those of the rule, in order. -/
theorem configurationCheckOrder : Obligations.ConfigurationCheckOrder := by
  intro c d canvasCap prevCap w h legal dims tiles tileBytes fits
  have hlegal : c.mode ≠ none ↔ legal := c.mode_ne_none_iff
  have hcheck (hl : legal) : cfgCheck c d canvasCap prevCap =
      if ¬ dims then .eCfgDim else if ¬ tiles then .eCfgTiles else if ¬ fits then .eCfgCap else .eNone := by
    have hmode := hlegal.mpr hl
    rw [cfgCheck_of_mode_ne_none hmode, CfgReg.tileBytes_of_mode hmode]
    rfl
  refine ⟨fun hl => ?_, fun hl hd => ?_, fun hl hd ht => ?_, fun hl hd ht hf => ?_, fun hl hd ht hf => ?_⟩
  · exact cfgCheck_of_mode_eq_none (not_not.mp (hlegal.not.mpr hl)) d canvasCap prevCap
  · rw [hcheck hl, if_pos hd]
  · rw [hcheck hl, if_neg (not_not_intro hd), if_pos ht]
  · rw [hcheck hl, if_neg (not_not_intro hd), if_neg (not_not_intro ht), if_pos hf]
  · rw [hcheck hl, if_neg (not_not_intro hd), if_neg (not_not_intro ht), if_neg (not_not_intro hf)]

/-- Settles O56: both empty the FIFO with nothing left to push, and neither touches what the host has read. -/
theorem initAndResetDiscardUnreadOutput : Obligations.InitAndResetDiscardUnreadOutput := by
  intro s t hstep hdiscards
  obtain ⟨hreads, hofifo, hpending⟩ := step_discards hdiscards hstep
  exact ⟨by simp [State.stream, State.popped, hreads, hofifo, hpending], hofifo, hpending⟩

/-- Settles O57: the engine has no room to push into, and of the host's transactions only a pop makes some. -/
theorem fullFifoStallsUntilPopped : Obligations.FullFifoStallsUntilPopped := by
  intro s t hpending hfull hstep hpop hreset
  have hbusy : s.busy = true := State.busy_eq_true.mpr hpending
  cases step_effect hstep with
  | engine rest =>
    rw [State.engineTurn_none (s := { s with inputs := rest }) (.inr hfull)]
    exact ⟨rfl, rfl⟩
  | reset rest hin => exact absurd ⟨rest, hin⟩ hreset
  | host tx rest hin _ heffect =>
    obtain ⟨-, hrecord⟩ := heffect.sameSession_of_busy hbusy
    refine ⟨hrecord, heffect.ofifo_of_busy hbusy ?_⟩
    rintro rfl
    exact hpop ⟨rest, hin⟩

/-- Settles O15: the three reads are answered by `State.respondUnlessBusy`. -/
theorem sessionRegisterReads : Obligations.SessionRegisterReads := by
  intro s
  have hword (v : BitVec 16) : v.setWidth 32 = BitVec.ofNat 32 v.toNat := (BitVec.ofNat_toNat ..).symm
  refine ⟨fun hp => ?_, fun hp => ?_, rfl, rfl, rfl⟩
  · have hb := State.busy_eq_false.mpr hp
    exact ⟨next_respondUnlessBusy_idle hb _ rfl _, next_respondUnlessBusy_idle hb _ (hword _) _,
      next_respondUnlessBusy_idle hb _ rfl _⟩
  · have hb := State.busy_eq_true.mpr hp
    exact ⟨next_respondUnlessBusy_busy hb _ _ rfl, next_respondUnlessBusy_busy hb _ _ (hword _),
      next_respondUnlessBusy_busy hb _ _ rfl⟩

/-- Settles O46: neither meaning looks at the state. -/
theorem nopAndCommandRead : Obligations.NopAndCommandRead := fun _ => ⟨rfl, rfl, rfl, rfl⟩

/-- Settles O50: the three branches of `State.cmdEncode`, in order. -/
theorem encodeRefusalsAndAcceptance : Obligations.EncodeRefusalsAndAcceptance := fun _ =>
  ⟨fun hp => congrArg Host.Outcome.next (State.cmdEncode_busy (State.busy_eq_true.mpr hp)),
    fun hp hvalid => congrArg Host.Outcome.next (State.cmdEncode_notCfg (State.busy_eq_false.mpr hp) hvalid),
    fun hp hvalid => congrArg Host.Outcome.next (State.cmdEncode_accept (State.busy_eq_false.mpr hp) hvalid)⟩

/-- Settles O54: the cases of `State.popOutput`, with the word of a popped byte as a number. -/
theorem outputFifoReads : Obligations.OutputFifoReads := by
  intro s
  have hread : exec .rdOutData s = .next s.popOutput := rfl
  refine ⟨fun hempty => ?_, fun b rest hfifo => ?_, rfl, rfl, rfl⟩
  · rw [hread, State.popOutput_nil hempty]
    rfl
  · rw [hread, State.popOutput_cons hfifo]
    exact next_respond_eq { s with ofifo := rest } _ (outDataWord_eq b)

end

/-! # Register access

Settled here: unmapped accesses, the identification, capability and staged configuration registers, the writes of
`STATUS`, `IRQ_EN` and the read-only registers. The lemmas say which offsets name no register, give a `DIM` write
and a `STATUS` write as one update of the state each, and say what an INIT of an illegal pair leaves. -/

namespace Sys2Proof.Machine

/-! ### The fields of a written `DIM` -/

/-- WIDTH is the low half of the word, and HEIGHT the high one, as a quotient (R242). -/
theorem DimReg.ofWord_eq (d : Word) :
    DimReg.ofWord d = ⟨BitVec.ofNat 16 d.toNat, BitVec.ofNat 16 (d.toNat / 65536)⟩ := by
  have hhigh : d.extractLsb' 16 16 = BitVec.ofNat 16 (d.toNat / 65536) :=
    congrArg (BitVec.ofNat 16) (Nat.shiftRight_eq_div_pow d.toNat 16)
  rw [DimReg.ofWord, hhigh]
  rfl

theorem execWrDim_eq (d : Word) (s : State) :
    execWrDim d s = .next { s with
      dim := ⟨BitVec.ofNat 16 d.toNat, BitVec.ofNat 16 (d.toNat / 65536)⟩ } := by
  rw [execWrDim, DimReg.ofWord_eq]

/-! ### Unmapped accesses (R256) -/

/-- The misaligned offsets, and those from 0x05C on, name no register (R65, R82). -/
theorem ne_offset_of_unmapped {off : Offset} (h : off.toNat % 4 ≠ 0 ∨ 0x05C ≤ off.toNat) (r : Reg) :
    off ≠ r.offset := by
  intro hr
  obtain ⟨haligned, hle⟩ := (Laws.exists_offset_eq_iff off).mp ⟨r, hr⟩
  omega

/-! ### INIT of an illegal pair -/

/-- R241: with no error captured, the code of an illegal pair is the one INIT captures. -/
theorem State.cmdInit_illegalMode {s : State} (hb : s.busy = false) (herr : s.err = false)
    (hmode : s.cfg.mode = none) :
    s.cmdInit.cfgValid = false ∧ s.cmdInit.err = true ∧ s.cmdInit.errCode = .eCfgBpp := by
  have hcheck : s.stagedCheck = .eCfgBpp := cfgCheck_of_mode_eq_none hmode ..
  rw [State.cmdInit_fail hb (by simp [hcheck]), hcheck]
  simp [herr]

/-! ### The write of `STATUS` (R245) -/

/-- The two W1C bits work on different fields, so their clears are one update. -/
theorem execWrStatus_eq (d : Word) (s : State) :
    execWrStatus d s = .next
      { s with
        done := s.done && !statusClearsDone d
        err := s.err && !statusClearsErr d
        errMulti := s.errMulti && !statusClearsErr d
        errCode := if statusClearsErr d then .eNone else s.errCode } := by
  cases hdone : statusClearsDone d <;> cases herr : statusClearsErr d <;>
    simp [execWrStatus, State.clearError, hdone, herr]

end Sys2Proof.Machine

section

open Sys2Proof Sys2Proof.Machine

/-- Settles O5: such an offset is no register's, so the step is `State.unmappedAccess`, with the capture as one
record (`State.raiseError_eq`). -/
theorem unmappedAccessRaisesBadAddr : Obligations.UnmappedAccessRaisesBadAddr := by
  intro s t rest hin hoff
  rw [step_host hin, hostTransaction_unmapped (ne_offset_of_unmapped hoff)]
  cases t with
  | read off => rw [State.unmappedAccess, State.respond_raiseError, State.raiseError_eq]
  | write off d => rw [State.unmappedAccess, State.raiseError_eq]

/-- Settles O11: each read answers with a constant or a parameter. -/
theorem identificationAndCapabilityReads : Obligations.IdentificationAndCapabilityReads :=
  fun _ => ⟨rfl, rfl, rfl, rfl, rfl, rfl, rfl, rfl⟩

/-- Settles O12: the registers' words and fields as numbers, and the INIT of a pair that names no mode. -/
theorem stagedConfigurationRegisters : Obligations.StagedConfigurationRegisters := by
  intro s d
  refine ⟨next_respond_eq s 0x004 s.cfg.toWord_eq, rfl, fun hpending herr hillegal => ?_,
    next_respond_eq s 0x008 s.dim.toWord_eq, execWrDim_eq d s,
    next_respond_eq s 0x00C (kfiToWord_eq s.kfi), rfl, rfl, rfl, rfl, rfl, rfl, rfl⟩
  have hmode : s.cfg.mode = none := not_not.mp (s.cfg.mode_ne_none_iff.not.mpr hillegal)
  exact ⟨s.cmdInit, rfl, State.cmdInit_illegalMode (State.busy_eq_false.mpr hpending) herr hmode⟩

/-- Settles O17: the write is one update of the state. -/
theorem statusWriteClearsTheBitsWrittenAsOne : Obligations.StatusWriteClearsTheBitsWrittenAsOne :=
  fun s d => ⟨execWrStatus_eq d s, rfl⟩

/-- Settles O18: the output is a function of the state, so it is that of the enables just written. -/
theorem interruptEnablesAndOutput : Obligations.InterruptEnablesAndOutput := by
  intro s d
  refine ⟨next_respond_eq s 0x018 s.irqEn.toWord_eq, { s with irqEn := IrqEnReg.ofWord d }, rfl, rfl, ?_, rfl, rfl⟩
  simp [State.irq, IrqEnReg.ofWord]

/-- Settles O20: each of these writes is `State.ignoreWrite`, which leaves the state as it was. -/
theorem writesOfReadOnlyRegistersAreIgnored : Obligations.WritesOfReadOnlyRegistersAreIgnored := by
  intro s d
  and_intros <;> rfl

end

/-! # Exceptions

Settled here: what raising an error captures, and what can lose the capture. `ERR` falls only by a write of `STATUS`
that clears it or by reset (`step_err_cases`); the lemmas say that the rest of the capture survives every step after
which `ERR` is still set. -/

namespace Sys2Proof.Machine

/-- The captured code, and `ERR_MULTI` if it is set, are in `t` what they are in `s` (R276). -/
def KeepsCapture (s t : State) : Prop := t.errCode = s.errCode ∧ (s.errMulti = true → t.errMulti = true)

theorem KeepsCapture.raiseError {s : State} (herr : s.err = true) (code : ErrCode) :
    KeepsCapture s (s.raiseError code) := by
  rw [State.raiseError_further herr]
  exact ⟨rfl, fun _ => rfl⟩

theorem KeepsCapture.unmappedAccess {s : State} (herr : s.err = true) (tx : Txn) :
    KeepsCapture s (s.unmappedAccess tx) := by
  cases tx <;> exact .raiseError herr .eBadAddr

theorem State.engineTurn_keepsCapture (s : State) : KeepsCapture s s.engineTurn := by
  obtain ⟨-, heq⟩ | ⟨b, rest, -, -, heq⟩ := s.engineTurn_cases <;> rw [heq] <;> exact ⟨rfl, id⟩

theorem CommandEffect.keepsCapture {s t : State} {d : Word} (he : CommandEffect s d t) (herr : s.err = true) :
    KeepsCapture s t := by
  cases he with
  | refuse _ code => exact .raiseError herr code
  | failSession =>
    exact .raiseError (s := { s.sessionReset with cfgValid := false }) herr s.stagedCheck
  | _ => exact ⟨rfl, id⟩

/-- A write of `STATUS` that clears any of the capture clears `ERR` with it (R277). -/
theorem TxnEffect.keepsCapture {s t : State} {tx : Txn} (he : TxnEffect s tx t) (herr : s.err = true)
    (herr' : t.err = true) : KeepsCapture s t := by
  cases he with
  | clearErr | clearBoth => exact absurd herr' Bool.false_ne_true
  | refuseRead code => exact .raiseError herr code
  | refusePixel _ code => exact .raiseError herr code
  | issue d => exact (s.issueCommand_effect d).keepsCapture herr
  | unmapped => exact .unmappedAccess herr tx
  | _ => exact ⟨rfl, id⟩

theorem step_keepsCapture {s t : State} (hstep : step s = .next t) (herr : s.err = true) (herr' : t.err = true) :
    KeepsCapture s t := by
  cases step_effect hstep with
  | engine rest => exact State.engineTurn_keepsCapture { s with inputs := rest }
  | reset => exact absurd herr' Bool.false_ne_true
  | host tx rest _ _ heffect => exact heffect.keepsCapture herr herr'

end Sys2Proof.Machine

section

open Sys2Proof Sys2Proof.Machine

/-- Settles O24: the excluded events are all that can clear `ERR`, and while it is set the capture is kept. -/
theorem captureIsClearedOnlyByStatusWriteOrReset : Obligations.CaptureIsClearedOnlyByStatusWriteOrReset := by
  intro s t hstep herr hreset hstatus
  obtain herr' | ⟨d, hnext, hclears⟩ := step_err_cases hstep hreset herr
  · obtain ⟨hcode, hmulti⟩ := step_keepsCapture hstep herr herr'
    exact ⟨herr', hcode, hmulti⟩
  · exact absurd ((hstatus d hnext).symm.trans hclears) Bool.false_ne_true

/-- Settles O23: the two branches of `State.raiseError`. -/
theorem raiseCapturesTheFirstError : Obligations.RaiseCapturesTheFirstError := fun _ code =>
  ⟨fun herr => State.raiseError_first herr code, fun herr => State.raiseError_further herr code⟩

end
